-- ==== Sys2Proof/Word.lean ====
section
/-! DEFINITION. The word types of the block (00_scope.md R7, R9): every value is an unsigned binary
integer of a fixed width, and bit 0 is the least significant bit. -/

namespace Sys2Proof

/-- One input of the block (30_encoding.md R80). -/
abbrev EventWord := BitVec 64

/-- A host register, a timestamp, a shift register, a transmit code (R7: `TS_W`, `SR_W`, `CODE_W`). -/
abbrev Word := BitVec 32

/-- A timing configuration register or a repeat count (R7: `CFG_W`, `REP_W`). -/
abbrev Half := BitVec 16

/-- A register address (R60). -/
abbrev Addr := BitVec 4

/-- The 3-bit selector of the bit-decode step (R92). -/
abbrev Selector := BitVec 3

/-- A line level, `false` low and `true` high (R13); also the direction of an edge, `true` rising (R83). -/
abbrev Level := Bool

end Sys2Proof
end

