-- ==== Sys2Proof/Syntax.lean ====
section
/-! DEFINITION. The instructions: one constructor per row of spec/opcode_table.json. The first seven
are the events of 30_encoding.md R81; `dec0` to `dec7` are the actions of the internal selector (R92),
performed inside a rising-edge step (41_rx_decoder.md R147). -/

namespace Sys2Proof

/-- The rows of spec/opcode_table.json, operands at the widths of 30_encoding.md R88. -/
inductive Instr where
  /-- `NOP` (R240). -/
  | nop
  /-- `EDGE dir, ts` (R140): `dir` is `DIR`, `ts` is `TS`. -/
  | edge (dir : Level) (ts : Word)
  /-- `TICK` (R251). -/
  | tick
  /-- `SEND code, bits, repeat` (R201). -/
  | send (code : Word) (bits : BitVec 6) (rep : Half)
  /-- `WR reg, data` (R244). -/
  | wr (addr : Addr) (data : Word)
  /-- `RD reg` (R241). -/
  | rd (addr : Addr)
  /-- `RESET` (R249). -/
  | reset
  /-- `DEC0` (R149). -/
  | dec0
  /-- `DEC1` (R150). -/
  | dec1
  /-- `DEC2` (R151). -/
  | dec2
  /-- `DEC3` (R152). -/
  | dec3
  /-- `DEC4` (R153). -/
  | dec4
  /-- `DEC5` (R154). -/
  | dec5
  /-- `DEC6` (R155). -/
  | dec6
  /-- `DEC7` (R156). -/
  | dec7
deriving DecidableEq, Repr

/-- A register name of 10_state.md R23, as 30_encoding.md R96 lets a program write it. -/
inductive RegName where
  | ctrl | status | rxFrame | teUs | shortMin | shortMax | longMin | longMax | silenceUs | txGapUs
deriving DecidableEq, Repr

/-- A register operand of the textual form: a name or a number (R96). -/
inductive RegRef where
  | name (r : RegName)
  | number (n : Nat)
deriving DecidableEq, Repr

/-- One line of the textual form of R96. Its operands are numbers that need not fit their fields. -/
inductive SourceLine where
  | nop
  | tick
  | reset
  /-- `EDGE R, ts` when `rising`, else `EDGE F, ts`. -/
  | edge (rising : Bool) (ts : Nat)
  | send (code bits rep : Nat)
  | wr (reg : RegRef) (data : Nat)
  | rd (reg : RegRef)
deriving DecidableEq, Repr

end Sys2Proof
end

