-- ==== Sys2Proof/WellFormed.lean ====
section
/-! DEFINITION. What makes a term well formed. The operands of an `Instr` have their fields' widths, so
the one check on it is whether it is an event the host can present at all (30_encoding.md R81, R93). A
line of the textual form has number operands, each checked against its field (R96). -/

namespace Sys2Proof

/-- The instruction is an event word's (R81). The selector actions are not: "The selector is internal"
(R93). -/
def Instr.wellFormed : Instr → Bool
  | .nop | .edge _ _ | .tick | .send _ _ _ | .wr _ _ | .rd _ | .reset => true
  | .dec0 | .dec1 | .dec2 | .dec3 | .dec4 | .dec5 | .dec6 | .dec7 => false

/-- The address of a named register (10_state.md R23). -/
def RegName.addr : RegName → Nat
  | .ctrl => 0x0
  | .status => 0x1
  | .rxFrame => 0x2
  | .teUs => 0x3
  | .shortMin => 0x4
  | .shortMax => 0x5
  | .longMin => 0x6
  | .longMax => 0x7
  | .silenceUs => 0x8
  | .txGapUs => 0x9

/-- The address a register operand stands for. -/
def RegRef.addr : RegRef → Nat
  | .name r => r.addr
  | .number n => n

/-- Every operand fits its field: "A value that does not fit its field is an assembly error" (R96). -/
def SourceLine.wellFormed : SourceLine → Bool
  | .nop | .tick | .reset => true
  | .edge _ ts => decide (ts < 2 ^ 32)
  | .send code bits rep => decide (code < 2 ^ 32) && decide (bits < 2 ^ 6) && decide (rep < 2 ^ 16)
  | .wr reg data => decide (reg.addr < 16) && decide (data < 2 ^ 32)
  | .rd reg => decide (reg.addr < 16)

end Sys2Proof
end

