-- ==== Sys2Proof/Decode.lean ====
section
/-! DEFINITION. The total decoder of event words (30_encoding.md R90), the reading of the internal
selector (R92), the encoder, and the assembler of the textual form (R96). A word is one unit of 64 bits:
no byte order arises (20_memory.md R65). -/

namespace Sys2Proof

/-- Why a word is illegal (R89). -/
inductive IllegalWord where
  /-- Its `OP` is `0x6` to `0xE`. -/
  | unassignedOp
  /-- A reserved bit of its format is 1. -/
  | reservedBits
deriving DecidableEq, Repr

/-- The operation field `OP`, bits 63:60 (R80). -/
def opField (w : EventWord) : BitVec 4 := w.extractLsb' 60 4

/-- The instruction `i` if the word's reserved bits are all 0, else the word is illegal (R89). -/
def ifReservedZero {n : Nat} (reserved : BitVec n) (i : Instr) : Except IllegalWord Instr :=
  if reserved = 0 then .ok i else .error .reservedBits

/-- The decoder of R90, with the fields of R82 to R88. -/
def decode (w : EventWord) : Except IllegalWord Instr :=
  match (opField w).toNat with
  | 0x0 => ifReservedZero (w.extractLsb' 0 60) .nop
  | 0x1 => ifReservedZero (w.extractLsb' 33 27) (.edge (w.getLsbD 32) (w.extractLsb' 0 32))
  | 0x2 => ifReservedZero (w.extractLsb' 0 60) .tick
  | 0x3 => ifReservedZero (w.extractLsb' 54 6)
      (.send (w.extractLsb' 0 32) (w.extractLsb' 32 6) (w.extractLsb' 38 16))
  | 0x4 => ifReservedZero (w.extractLsb' 36 24) (.wr (w.extractLsb' 32 4) (w.extractLsb' 0 32))
  | 0x5 => ifReservedZero (w.extractLsb' 36 24 ++ w.extractLsb' 0 32) (.rd (w.extractLsb' 32 4))
  | 0xF => ifReservedZero (w.extractLsb' 0 60) .reset
  | _ => .error .unassignedOp

/-- The row of the selector table (R92). -/
def decodeSelector (sel : Selector) : Instr :=
  match sel.getLsbD 2, sel.getLsbD 1, sel.getLsbD 0 with
  | false, false, false => .dec0
  | false, false, true => .dec1
  | false, true, false => .dec2
  | false, true, true => .dec3
  | true, false, false => .dec4
  | true, false, true => .dec5
  | true, true, false => .dec6
  | true, true, true => .dec7

/-- What encodes an instruction: a host's event word, or the internal selector (R92). -/
inductive Code where
  | event (w : EventWord)
  | selector (sel : Selector)
deriving DecidableEq, Repr

/-- The instruction a code stands for. -/
def decodeCode : Code → Except IllegalWord Instr
  | .event w => decode w
  | .selector sel => .ok (decodeSelector sel)

/-- `EDGE F, ts` or, when `dir`, `EDGE R, ts` (R83, R96). -/
def edgeWord (dir : Level) (ts : Word) : EventWord := 0x1#4 ++ 0#27 ++ BitVec.ofBool dir ++ ts

/-- `TICK` (R84). -/
def tickWord : EventWord := 0x2000000000000000

/-- `SEND code, bits, repeat` (R85, R96). -/
def sendWord (code : Word) (bits : BitVec 6) (rep : Half) : EventWord := 0x3#4 ++ 0#6 ++ rep ++ bits ++ code

/-- `WR reg, data` (R86, R96). -/
def writeWord (addr : Addr) (data : Word) : EventWord := 0x4#4 ++ 0#24 ++ addr ++ data

/-- `RD reg` (R87, R96). -/
def readWord (addr : Addr) : EventWord := 0x5#4 ++ 0#24 ++ addr ++ 0#32

/-- The code of an instruction: the words of R82 to R87, and the rows of R92. -/
def encode : Instr → Code
  | .nop => .event 0x0000000000000000
  | .edge dir ts => .event (edgeWord dir ts)
  | .tick => .event tickWord
  | .send code bits rep => .event (sendWord code bits rep)
  | .wr addr data => .event (writeWord addr data)
  | .rd addr => .event (readWord addr)
  | .reset => .event 0xF000000000000000
  | .dec0 => .selector 0b000
  | .dec1 => .selector 0b001
  | .dec2 => .selector 0b010
  | .dec3 => .selector 0b011
  | .dec4 => .selector 0b100
  | .dec5 => .selector 0b101
  | .dec6 => .selector 0b110
  | .dec7 => .selector 0b111

/-- The event word of an instruction the host can present; a selector action has none (R93). -/
def encodeEvent (i : Instr) : Option EventWord :=
  match encode i with
  | .event w => some w
  | .selector _ => none

/-- The code a row of spec/opcode_table.json of `nbits` bits gives: the selector rows have 3 bits, one
byte when rounded up, and every other row is one 64-bit word (log entry 7). -/
def tableCode (nbits w : Nat) : Code :=
  if 0 < nbits ∧ nbits ≤ 8 ∧ w < 8 then .selector (BitVec.ofNat 3 w) else .event (BitVec.ofNat 64 w)

/-- The instruction read from a table row's bits. -/
def decodeTableWord (nbits w : Nat) : Option Instr :=
  match decodeCode (tableCode nbits w) with
  | .ok i => some i
  | .error _ => none

/-- The instruction of a line of the textual form, none for an assembly error: "the assembler does not
truncate" (R96). -/
def assemble (l : SourceLine) : Option Instr :=
  if l.wellFormed then
    match l with
    | .nop => some .nop
    | .tick => some .tick
    | .reset => some .reset
    | .edge rising ts => some (.edge rising (BitVec.ofNat 32 ts))
    | .send code bits rep => some (.send (BitVec.ofNat 32 code) (BitVec.ofNat 6 bits) (BitVec.ofNat 16 rep))
    | .wr reg data => some (.wr (BitVec.ofNat 4 reg.addr) (BitVec.ofNat 32 data))
    | .rd reg => some (.rd (BitVec.ofNat 4 reg.addr))
  else none

end Sys2Proof
end

