-- ==== Sys2Proof/Config.lean ====
section
/-! DEFINITION. What is fixed for one block: the parameters of 00_scope.md R7, and the reset values R7
and 10_state.md R40 give the timing registers. -/

namespace Sys2Proof

/-- The parameters of one block that its rules read. No step writes them. -/
structure Params where
  /-- `TX_IDLE_LEVEL`: the level of the line while no chain plays (R7, R35). -/
  txIdleLevel : Level
deriving DecidableEq, Repr

namespace Config

/-- R7's values of the parameters: `TX_IDLE_LEVEL` = 1. -/
def params : Params := { txIdleLevel := true }

/-- `TE_US` after reset, µs. -/
def teUsReset : Half := 417

/-- `SHORT_MIN` after reset, µs. -/
def shortMinReset : Half := 350

/-- `SHORT_MAX` after reset, µs. -/
def shortMaxReset : Half := 490

/-- `LONG_MIN` after reset, µs. -/
def longMinReset : Half := 760

/-- `LONG_MAX` after reset, µs. -/
def longMaxReset : Half := 900

/-- `SILENCE_US` after reset, µs: twice the nominal full bit, 2 × 2 × 417 (R30). -/
def silenceUsReset : Half := 1668

/-- `TX_GAP_US` after reset. -/
def txGapUsReset : Half := 0

/-- `POLL_US`, a parameter of the host: how long it waits between two reads of `STATUS` (R7, R215). -/
def pollUs : Nat := 100000

/-- `GLITCH_US`, which R7 leaves OPEN, outside the block: the host's glitch filter. No rule reads it, and
it has no value here (log entry 11). -/
opaque glitchUs : Nat

end Config

end Sys2Proof
end

