-- ==== Sys2Proof/Machine/State.lean ====
section
/-! DEFINITION. The state of the block (10_state.md R20): every field of its record, in the groups of its
table; the outputs of the last step (00_scope.md R6); the host's pending event words; the parameters. A
field of width 1 is a `Bool`, `true` for 1 (log entry 6). The block has no memory (20_memory.md R60). -/

namespace Sys2Proof.Machine

/-- The group `control` of R20; register `CTRL` (R24). -/
structure Control where
  /-- `RX_EN`: the receive channel is enabled. -/
  rxEn : Bool
  /-- `TX_EN`: the transmit channel is enabled. -/
  txEn : Bool
  /-- `ABORT_ON_ERR`: the error policy, `true` for abort-on-error (R186). -/
  abortOnErr : Bool
deriving DecidableEq, Repr

/-- The group `timing config` of R20; registers `0x3` to `0x9` (R27 to R31). -/
structure Timing where
  /-- `TE_US`: the nominal half-bit unit, µs. -/
  teUs : Half
  /-- `SHORT_MIN`: the inclusive lower bound of the Short window, µs. -/
  shortMin : Half
  /-- `SHORT_MAX`: the exclusive upper bound of the Short window, µs. -/
  shortMax : Half
  /-- `LONG_MIN`: the exclusive lower bound of the Long window, µs. -/
  longMin : Half
  /-- `LONG_MAX`: the exclusive upper bound of the Long window, µs. -/
  longMax : Half
  /-- `SILENCE_US`: the silence timeout, in `TICK`s. -/
  silenceUs : Half
  /-- `TX_GAP_US`: read by no rule (R31, R211). -/
  txGapUs : Half
deriving DecidableEq, Repr

/-- The group `decoder` of R20. -/
structure Decoder where
  /-- `RX_ECNT`: the edge phase of the current frame (R33). -/
  rxEcnt : BitVec 2
  /-- `RX_PREV`: `previousHalfBit`. -/
  rxPrev : Bool
  /-- `RX_SR`: the shift register. -/
  rxSr : Word
  /-- `RX_PEND_HIGH`: the pending high duration, µs. -/
  rxPendHigh : Word
  /-- `RX_ERR`: the error flag of the current frame (R37). -/
  rxErr : Bool
  /-- `RX_PREV_TS`: the timestamp of the previous edge (R141). -/
  rxPrevTs : Word
deriving DecidableEq, Repr

/-- The group `watchdog` of R20. -/
structure Watchdog where
  /-- `WD_ARMED`: a silence timer is pending. -/
  wdArmed : Bool
  /-- `WD_CNT`: the `TICK`s left until expiry. -/
  wdCnt : Half
deriving DecidableEq, Repr

/-- The group `frame latch` of R20 (R36). -/
structure FrameLatch where
  /-- `RX_FRAME`: the value of the last delivered frame. -/
  rxFrame : Word
  /-- `RX_FRAME_ERR`: the error flag of the last delivered frame. -/
  rxFrameErr : Bool
  /-- `RX_PEND`: the delivered frame has not been read. -/
  rxPend : Bool
  /-- `RX_OVR`: a frame was delivered while `RX_PEND` was 1. -/
  rxOvr : Bool
deriving DecidableEq, Repr

/-- The group `sequencer` of R20 (R34, R35). -/
structure Sequencer where
  /-- `TX_BUSY`: a chain is playing. -/
  txBusy : Bool
  /-- `TX_LINE`: the level now driven. -/
  txLine : Level
  /-- `TX_CODE`: the code of the chain. -/
  txCode : Word
  /-- `TX_NBITS`: the bit count of the chain. -/
  txNbits : BitVec 6
  /-- `TX_REP`: the plays left, counting the one in progress. -/
  txRep : Half
  /-- `TX_TE`: the chain's half-bit unit, µs. -/
  txTe : Half
  /-- `TX_ELEM`: the chain element playing. -/
  txElem : BitVec 6
  /-- `TX_HALF`: the pulse playing inside the element. -/
  txHalf : Bool
  /-- `TX_REM`: the `TICK`s left in the pulse playing. -/
  txRem : BitVec 18
deriving DecidableEq, Repr

/-- The group `error` of R20 (R38). -/
structure Errors where
  /-- `TX_ERR`: a `SEND` was rejected. -/
  txErr : Bool
  /-- `TX_CAUSE`: the cause of the last rejection (R261). -/
  txCause : BitVec 3
  /-- `EV_ILL`: an illegal event word was presented. -/
  evIll : Bool
deriving DecidableEq, Repr

/-- The outputs of a step (R6). -/
structure Outputs where
  /-- `FRAME_VALID`: a frame is delivered in this step. -/
  frameValid : Bool
  /-- `FRAME_VALUE`. -/
  frameValue : Word
  /-- `FRAME_ERR`. -/
  frameErr : Bool
  /-- `RDATA_VALID`: the step is a `READ`. -/
  rdataValid : Bool
  /-- `RDATA`. -/
  rdata : Word
  /-- `TX_LINE`: the level held after the step. -/
  txLine : Level
deriving DecidableEq, Repr

/-- The block (R20), the outputs of its last step (R6), the words the host has presented and the block has
not taken, oldest first (R68; log entry 1), and the parameters (R7; log entry 5). -/
structure State where
  ctl : Control
  timing : Timing
  dec : Decoder
  wd : Watchdog
  latch : FrameLatch
  tx : Sequencer
  err : Errors
  out : Outputs
  events : List EventWord
  params : Params
deriving DecidableEq, Repr

/-- Why the machine stops. There is no reason: "No condition stops the block" (60_exceptions.md R260), and
"The block never faults and never sticks" (93_implementation_defined.md). Nobody raises a fault; that is
safe, since a step then always answers a next state the rules give (log entry 9). -/
inductive Fault where
deriving DecidableEq, Repr

/-- Why an instruction is refused. -/
inductive Refusal where
  /-- An instruction with no meaning yet, by its mnemonic. Raised by an arm of `exec` alone; no arm raises
  it now. Safe: the machine stops. -/
  | notModelled (mnemonic : String)
deriving DecidableEq, Repr

/-- `RESET_STATE` (R40) of a block with parameters `p`, no word pending, with the outputs of a `RESET`
step: no frame, no read data, the line at its idle level (R291; log entry 3). -/
def State.resetFor (p : Params) : State :=
  { ctl := { rxEn := false, txEn := false, abortOnErr := false }
    timing :=
      { teUs := Config.teUsReset
        shortMin := Config.shortMinReset
        shortMax := Config.shortMaxReset
        longMin := Config.longMinReset
        longMax := Config.longMaxReset
        silenceUs := Config.silenceUsReset
        txGapUs := Config.txGapUsReset }
    dec := { rxEcnt := 0, rxPrev := false, rxSr := 0, rxPendHigh := 0, rxErr := false, rxPrevTs := 0 }
    wd := { wdArmed := false, wdCnt := 0 }
    latch := { rxFrame := 0, rxFrameErr := false, rxPend := false, rxOvr := false }
    tx :=
      { txBusy := false, txLine := p.txIdleLevel, txCode := 0, txNbits := 0, txRep := 0, txTe := 0
        txElem := 0, txHalf := false, txRem := 0 }
    err := { txErr := false, txCause := 0, evIll := false }
    out :=
      { frameValid := false, frameValue := 0, frameErr := false, rdataValid := false, rdata := 0
        txLine := p.txIdleLevel }
    events := []
    params := p }

/-- The machine right after power-on, which "is a `RESET` before the first event" (R290). -/
def State.reset : State := State.resetFor Config.params

end Sys2Proof.Machine
end

