-- ==== Sys2Proof/Machine/Flags.lean ====
section
/-! DEFINITION. The error conditions and what each records (60_exceptions.md R261). The block has no trap
entry and no trap return: "Every error condition is recorded in a status flag by the event that detects
it" (R260), and `flag` is that one shared operation. -/

namespace Sys2Proof.Machine

/-- The rows of R261. -/
inductive ErrorName where
  /-- A classified duration is `Invalid` (R262). -/
  | timingInvalid
  /-- The selector is 1, 3 or 6 (R263). -/
  | protocol
  /-- Bad `BITS`, `REPEAT` or `TE_US` at a `SEND`; code 1 (R264). -/
  | txConfig
  /-- A `SEND` while a chain plays; code 2 (R265). -/
  | txInflight
  /-- A `SEND` while `TX_EN` = 0; code 3 (R267). -/
  | txDisabled
  /-- A delivery while `RX_PEND` = 1 (R266). -/
  | rxOverrun
  /-- An illegal event word (R268). -/
  | illegalEvent
deriving DecidableEq, Repr

/-- A rejected `SEND` records its cause, over any earlier one (R38). -/
def rejectSend (cause : BitVec 3) (s : State) : State :=
  { s with err := { s.err with txErr := true, txCause := cause } }

/-- The decoder's error flag is set (R37). -/
def setRxErr (s : State) : State := { s with dec := { s.dec with rxErr := true } }

/-- `flag(NAME)` (R10, R261). -/
def flag (e : ErrorName) (s : State) : State :=
  match e with
  | .timingInvalid => setRxErr s
  | .protocol => setRxErr s
  | .txConfig => rejectSend 1 s
  | .txInflight => rejectSend 2 s
  | .txDisabled => rejectSend 3 s
  | .rxOverrun => { s with latch := { s.latch with rxOvr := true } }
  | .illegalEvent => { s with err := { s.err with evIll := true } }

end Sys2Proof.Machine
end

