-- ==== Sys2Proof/Machine/Ops.lean ====
section
/-! DEFINITION. The operations the meanings share: the frame of a step (44_host_ops.md R252), clearing the
decoder (R160), arming and disarming the watchdog (R180, R181, R188), emitting a bit (R148). -/

namespace Sys2Proof.Machine

/-- The outputs a step starts with: none valid, every value 0 (R6, R252). The line output keeps its level
until the end of the step. -/
def noOutputs (line : Level) : Outputs :=
  { frameValid := false, frameValue := 0, frameErr := false, rdataValid := false, rdata := 0, txLine := line }

/-- A step begins: the word has been taken, `rest` is still pending, and no output is valid (R252). -/
def beginStep (rest : List EventWord) (s : State) : State :=
  { s with out := noOutputs s.out.txLine, events := rest }

/-- A step ends: `out.TX_LINE <- s.TX_LINE` (R252). -/
def endStep (s : State) : State := { s with out := { s.out with txLine := s.tx.txLine } }

/-- The end of a step after an instruction's meaning. -/
def finish (r : Host.Outcome State Fault Refusal) : Host.Outcome State Fault Refusal :=
  match r with
  | .next s => .next (endStep s)
  | .fault f => .fault f
  | .refused f => .refused f

/-- The next event word and the words after it (R68), none while the host presents nothing. -/
def nextEvent (s : State) : Option (EventWord × List EventWord) :=
  match s.events with
  | [] => none
  | w :: rest => some (w, rest)

/-- A step in which the host presents no word: no field of the block changes, since "what it does next is
decided by the next event" (R22), and no output is valid (log entry 2). -/
def idleStep (s : State) : State := endStep (beginStep [] s)

/-- A step that takes an illegal word: it sets `EV_ILL` "and does nothing else" (R250). -/
def illegalStep (s : State) : State := endStep (flag .illegalEvent s)

/-- `CLEAR_DECODER` (R160): every field of the decoder but `RX_PREV_TS`. -/
def clearDecoder (s : State) : State :=
  { s with dec :=
      { s.dec with rxEcnt := 0, rxPrev := false, rxSr := 0, rxPendHigh := 0, rxErr := false } }

/-- The silence timer is armed, whatever it was (R180, R181). -/
def armWatchdog (s : State) : State := { s with wd := { wdArmed := true, wdCnt := s.timing.silenceUs } }

/-- The silence timer is disarmed (R184, R188). -/
def disarmWatchdog (s : State) : State := { s with wd := { wdArmed := false, wdCnt := 0 } }

/-- `EMIT(b)` (R148). -/
def emit (b : Bool) (s : State) : State :=
  { s with dec := { s.dec with rxSr := (s.dec.rxSr <<< 1) ||| (BitVec.ofBool b).setWidth 32 } }

/-- `s.RX_PREV <- b`. -/
def setPrev (b : Bool) (s : State) : State := { s with dec := { s.dec with rxPrev := b } }

end Sys2Proof.Machine
end

