-- ==== Sys2Proof/Machine/Operands.lean ====
section
/-! DEFINITION. The register space (10_state.md R23, 20_memory.md R60): the read value of every address
(44_host_ops.md R242) and the effect of a write to every address (R244 to R248). -/

namespace Sys2Proof.Machine

/-- The read value of `CTRL` (R24, R242). -/
def ctrlWord (s : State) : Word :=
  (BitVec.ofBool s.ctl.abortOnErr ++ BitVec.ofBool s.ctl.txEn ++ BitVec.ofBool s.ctl.rxEn).setWidth 32

/-- `RX_ACTIVE`, bit 5 of `STATUS`: a frame is being assembled (R25). -/
def rxActive (s : State) : Bool := decide (s.dec.rxEcnt ≠ 0)

/-- The read value of `STATUS` (R25, R242). -/
def statusWord (s : State) : Word :=
  (s.err.txCause ++ BitVec.ofBool s.tx.txLine ++ BitVec.ofBool s.latch.rxFrameErr ++
    BitVec.ofBool s.wd.wdArmed ++ BitVec.ofBool (rxActive s) ++ BitVec.ofBool s.err.evIll ++
    BitVec.ofBool s.latch.rxOvr ++ BitVec.ofBool s.latch.rxPend ++ BitVec.ofBool s.err.txErr ++
    BitVec.ofBool s.tx.txBusy).setWidth 32

/-- `Reg(a)` (R242). A reserved address reads 0 (R32). -/
def readReg (s : State) (a : Addr) : Word :=
  match a.toNat with
  | 0x0 => ctrlWord s
  | 0x1 => statusWord s
  | 0x2 => s.latch.rxFrame
  | 0x3 => s.timing.teUs.setWidth 32
  | 0x4 => s.timing.shortMin.setWidth 32
  | 0x5 => s.timing.shortMax.setWidth 32
  | 0x6 => s.timing.longMin.setWidth 32
  | 0x7 => s.timing.longMax.setWidth 32
  | 0x8 => s.timing.silenceUs.setWidth 32
  | 0x9 => s.timing.txGapUs.setWidth 32
  | _ => 0

/-- The side effect of a `READ` (R243): a read of `RX_FRAME` clears `RX_PEND`, and no other read has one. -/
def readEffect (a : Addr) (s : State) : State :=
  if a = 0x2 then { s with latch := { s.latch with rxPend := false } } else s

/-- The receiver's part of a `CTRL` write (R245): `old` is `RX_EN` before the write. -/
def rxEnableChange (old new : Bool) (s : State) : State :=
  match old, new with
  | false, true => armWatchdog s
  | true, false => disarmWatchdog (clearDecoder s)
  | _, _ => s

/-- `WRITE_CTRL` (R245). -/
def writeCtrl (data : Word) (s : State) : State :=
  rxEnableChange s.ctl.rxEn (data.getLsbD 0)
    { s with ctl := { rxEn := data.getLsbD 0, txEn := data.getLsbD 1, abortOnErr := data.getLsbD 2 } }

/-- `WRITE_STATUS` (R246): bits 1, 3 and 4 are cleared by writing 1. -/
def writeStatus (data : Word) (s : State) : State :=
  { s with
    err :=
      { txErr := if data.getLsbD 1 then false else s.err.txErr
        txCause := if data.getLsbD 1 then 0 else s.err.txCause
        evIll := if data.getLsbD 4 then false else s.err.evIll }
    latch := { s.latch with rxOvr := if data.getLsbD 3 then false else s.latch.rxOvr } }

/-- `WRITE(ADDR, DATA)` (R244): `CTRL`, `STATUS`, the timing registers (R247); every other address ignores
the write (R248). -/
def writeReg (a : Addr) (data : Word) (s : State) : State :=
  let v : Half := data.setWidth 16
  match a.toNat with
  | 0x0 => writeCtrl data s
  | 0x1 => writeStatus data s
  | 0x3 => { s with timing := { s.timing with teUs := v } }
  | 0x4 => { s with timing := { s.timing with shortMin := v } }
  | 0x5 => { s with timing := { s.timing with shortMax := v } }
  | 0x6 => { s with timing := { s.timing with longMin := v } }
  | 0x7 => { s with timing := { s.timing with longMax := v } }
  | 0x8 => { s with timing := { s.timing with silenceUs := v } }
  | 0x9 => { s with timing := { s.timing with txGapUs := v } }
  | _ => s

end Sys2Proof.Machine
end

