-- ==== Sys2Proof/Machine/Receiver.lean ====
section
/-! DEFINITION. The receive half: the timing classifier (40_rx_classifier.md), the frame decoder with
`EDGE` and the selector actions `DEC0` to `DEC7` (41_rx_decoder.md), the silence watchdog and the delivery
of a frame (42_rx_watchdog.md). -/

namespace Sys2Proof.Machine

/-- The classifier's result (00_scope.md R12). -/
inductive PulseClass where
  | short
  | long
  | invalid
deriving DecidableEq, Repr

/-- `isLong(c)`: an `Invalid` duration counts as not long (R12). -/
def isLong (c : PulseClass) : Bool := decide (c = .long)

/-- `CLASSIFY(d)` (R120): Short is tested first, so it wins where the windows overlap (R121). The 16-bit
bounds are zero-extended and the comparisons unsigned (R122). -/
def classify (s : State) (d : Word) : PulseClass :=
  if s.timing.shortMin.setWidth 32 ≤ d ∧ d < s.timing.shortMax.setWidth 32 then .short
  else if s.timing.longMin.setWidth 32 < d ∧ d < s.timing.longMax.setWidth 32 then .long
  else .invalid

/-- The action of `DEC0` (R149). -/
def dec0 (s : State) : State := setPrev false (emit false s)

/-- The action of `DEC1` (R150): a protocol error, no bit, `RX_PREV` as it was. -/
def dec1 (s : State) : State := flag .protocol s

/-- The action of `DEC2` (R151). -/
def dec2 (s : State) : State := setPrev true (emit true (emit false s))

/-- The action of `DEC3` (R152). -/
def dec3 (s : State) : State := flag .protocol s

/-- The action of `DEC4` (R153). -/
def dec4 (s : State) : State := setPrev true (emit true s)

/-- The action of `DEC5` (R154). -/
def dec5 (s : State) : State := setPrev false (emit false s)

/-- The action of `DEC6` (R155). -/
def dec6 (s : State) : State := flag .protocol s

/-- The action of `DEC7` (R156). -/
def dec7 (s : State) : State := setPrev true (emit true (emit false s))

/-- The selector (R92): `previousHalfBit`, `lowIsLong`, `highIsLong`, from bit 2 down. -/
def selector (prev : Bool) (low high : PulseClass) : Selector :=
  BitVec.ofBool prev ++ BitVec.ofBool (isLong low) ++ BitVec.ofBool (isLong high)

/-- `DEC[sel]()` (R92, R147). -/
def selectorAction (sel : Selector) (s : State) : State :=
  match sel.getLsbD 2, sel.getLsbD 1, sel.getLsbD 0 with
  | false, false, false => dec0 s
  | false, false, true => dec1 s
  | false, true, false => dec2 s
  | false, true, true => dec3 s
  | true, false, false => dec4 s
  | true, false, true => dec5 s
  | true, true, false => dec6 s
  | true, true, true => dec7 s

/-- The first part of `BITDECODE` (R147): an `Invalid` class sets `RX_ERR`. -/
def noteInvalid (high low : PulseClass) (s : State) : State :=
  if high = .invalid ∨ low = .invalid then flag .timingInvalid s else s

/-- `BITDECODE(h, l)` (R147): the high duration `h` and the low duration `l` after it. -/
def bitDecode (h l : Word) (s : State) : State :=
  selectorAction (selector s.dec.rxPrev (classify s l) (classify s h))
    (noteInvalid (classify s h) (classify s l) s)

/-- `s.RX_ECNT <- n`. -/
def setEcnt (n : BitVec 2) (s : State) : State := { s with dec := { s.dec with rxEcnt := n } }

/-- The four edge phases (R143 to R146), by `RX_ECNT`; `el` is the elapsed time. -/
def edgePhase (el : Word) (s : State) : State :=
  match s.dec.rxEcnt.toNat with
  | 0 => setEcnt 1 (clearDecoder s)
  | 1 => setEcnt 2 (setPrev true s)
  | 2 => setEcnt 3 { s with dec := { s.dec with rxPendHigh := el } }
  | _ => setEcnt 2 (bitDecode s.dec.rxPendHigh el s)

/-- An edge taken while `RX_EN` = 1 (R140): the elapsed time is modulo 2^32 (R141), and the edge arms the
watchdog (R180). -/
def takeEdge (ts : Word) (s : State) : State :=
  armWatchdog
    (edgePhase (ts - s.dec.rxPrevTs) { s with dec := { s.dec with rxPrevTs := ts } })

/-- `DELIVER(v, e)` (R185). -/
def deliver (v : Word) (e : Bool) (s : State) : State :=
  let s1 := if s.latch.rxPend then flag .rxOverrun s else s
  { s1 with
    out := { s1.out with frameValid := true, frameValue := v, frameErr := e }
    latch := { s1.latch with rxFrame := v, rxFrameErr := e, rxPend := true } }

/-- `EXPIRE` (R184), with the error policy of R186: the value and the error flag are those before the
decoder is cleared. -/
def expire (s : State) : State :=
  let v := s.dec.rxSr
  let e := s.dec.rxErr
  let s1 := clearDecoder (disarmWatchdog s)
  if s1.ctl.abortOnErr && e then s1 else deliver v e s1

/-- `WD_TICK` (R182). -/
def wdTick (s : State) : State :=
  if s.wd.wdArmed = false then s
  else if s.wd.wdCnt ≤ 1 then expire s
  else { s with wd := { s.wd with wdCnt := s.wd.wdCnt - 1 } }

/-- `EDGE` (R140). Its direction is "carried but not used for decoding" (R83, R142). While `RX_EN` = 0 it
has no effect at all (R159). -/
def execEdge (_dir : Level) (ts : Word) (s : State) : Host.Outcome State Fault Refusal :=
  if s.ctl.rxEn then .next (takeEdge ts s) else .next s

/-- `DEC0` (R149). -/
def execDec0 (s : State) : Host.Outcome State Fault Refusal := .next (dec0 s)

/-- `DEC1` (R150). -/
def execDec1 (s : State) : Host.Outcome State Fault Refusal := .next (dec1 s)

/-- `DEC2` (R151). -/
def execDec2 (s : State) : Host.Outcome State Fault Refusal := .next (dec2 s)

/-- `DEC3` (R152). -/
def execDec3 (s : State) : Host.Outcome State Fault Refusal := .next (dec3 s)

/-- `DEC4` (R153). -/
def execDec4 (s : State) : Host.Outcome State Fault Refusal := .next (dec4 s)

/-- `DEC5` (R154). -/
def execDec5 (s : State) : Host.Outcome State Fault Refusal := .next (dec5 s)

/-- `DEC6` (R155). -/
def execDec6 (s : State) : Host.Outcome State Fault Refusal := .next (dec6 s)

/-- `DEC7` (R156). -/
def execDec7 (s : State) : Host.Outcome State Fault Refusal := .next (dec7 s)

end Sys2Proof.Machine
end

