-- ==== Sys2Proof/Machine/Transmitter.lean ====
section
/-! DEFINITION. The transmit half (43_tx_transmitter.md): the four pulse templates, the chain of a code,
`SEND`, and the sequencer that plays the chain on `TICK`. -/

namespace Sys2Proof.Machine

/-- One pulse: a level held for a number of µs, at the width of `TX_REM` (00_scope.md R13, R203). -/
structure Pulse where
  level : Level
  dur : BitVec 18
deriving DecidableEq, Repr

/-- The template `START` (R200): low, then high. -/
def startTemplate (te : BitVec 18) : List Pulse := [⟨false, te⟩, ⟨true, te⟩]

/-- The template `STOP` (R200): low for `4·TE`. -/
def stopTemplate (te : BitVec 18) : List Pulse := [⟨false, 4 * te⟩]

/-- The template `BIT0` (R200): high, then low. -/
def bit0Template (te : BitVec 18) : List Pulse := [⟨true, te⟩, ⟨false, te⟩]

/-- The template `BIT1` (R200): low, then high. -/
def bit1Template (te : BitVec 18) : List Pulse := [⟨false, te⟩, ⟨true, te⟩]

/-- The pulses of element `e` of the chain of `nbits` bits of `code` (R95, R203): element 0 is `START`,
element `nbits + 1` is `STOP`, element `e` between them carries bit `nbits - e`. -/
def elementOf (code : Word) (nbits : Nat) (te : BitVec 18) (e : Nat) : List Pulse :=
  if e = 0 then startTemplate te
  else if e = nbits + 1 then stopTemplate te
  else if code.getLsbD (nbits - e) then bit1Template te
  else bit0Template te

/-- The pulses of one play of a chain, laid end to end (R95). -/
def chainPulses (code : Word) (nbits : Nat) (te : BitVec 18) : List Pulse :=
  (List.range (nbits + 2)).flatMap (elementOf code nbits te)

/-- The level at `k` µs from the start of a list of pulses laid end to end (R209), low past its end. -/
def levelAt : List Pulse → Nat → Level
  | [], _ => false
  | p :: ps, k => if k < p.dur.toNat then p.level else levelAt ps (k - p.dur.toNat)

/-- The pulses of element `e` of the chain in flight, with `TE` = `TX_TE` (R203). -/
def element (s : State) (e : Nat) : List Pulse :=
  elementOf s.tx.txCode s.tx.txNbits.toNat (s.tx.txTe.setWidth 18) e

/-- `PULSE(e, i)` (R203). Every list of pulses is asked only for a pulse it has. -/
def pulse (s : State) (e i : Nat) : Pulse := (element s e).getD i ⟨false, 0⟩

/-- Pulse `i` of element `e` begins: the position, the line and the count of the pulse (R204). -/
def startPulse (e i : Nat) (s : State) : State :=
  { s with tx :=
      { s.tx with
        txElem := BitVec.ofNat 6 e
        txHalf := decide (i ≠ 0)
        txLine := (pulse s e i).level
        txRem := (pulse s e i).dur } }

/-- `COMPLETE` (R208): the line returns to its idle level; `TX_CODE`, `TX_NBITS` and `TX_TE` stay. -/
def complete (s : State) : State :=
  { s with tx :=
      { s.tx with
        txBusy := false, txLine := s.params.txIdleLevel, txRem := 0, txElem := 0, txHalf := false
        txRep := 0 } }

/-- What follows the end of a pulse: the next pulse of the element (R205), the next element (R206), the
next play (R207), or completion (R208). -/
def advance (s : State) : State :=
  let e := s.tx.txElem.toNat
  let i := s.tx.txHalf.toNat
  if i + 1 < (element s e).length then startPulse e (i + 1) s
  else if e < s.tx.txNbits.toNat + 1 then startPulse (e + 1) 0 s
  else if 1 < s.tx.txRep then startPulse 0 0 { s with tx := { s.tx with txRep := s.tx.txRep - 1 } }
  else complete s

/-- `TX_TICK` (R204). -/
def txTick (s : State) : State :=
  if s.tx.txBusy = false then s
  else
    let s1 := { s with tx := { s.tx with txRem := s.tx.txRem - 1 } }
    if s1.tx.txRem ≠ 0 then s1 else advance s1

/-- `ACCEPT` (R202): the whole chain is captured in one step, and the first pulse of `START` begins. -/
def accept (code : Word) (bits : BitVec 6) (rep : Half) (s : State) : State :=
  { s with tx :=
      { txBusy := true, txLine := false, txCode := code, txNbits := bits, txRep := rep
        txTe := s.timing.teUs, txElem := 0, txHalf := false, txRem := s.timing.teUs.setWidth 18 } }

/-- `SEND` (R201): the conditions are tested in the order disabled, in flight, configuration (R270). -/
def execSend (code : Word) (bits : BitVec 6) (rep : Half) (s : State) :
    Host.Outcome State Fault Refusal :=
  if s.ctl.txEn = false then .next (flag .txDisabled s)
  else if s.tx.txBusy then .next (flag .txInflight s)
  else if bits < 1 ∨ 32 < bits ∨ rep < 1 ∨ s.timing.teUs = 0 then .next (flag .txConfig s)
  else .next (accept code bits rep s)

end Sys2Proof.Machine
end

