-- ==== Sys2Proof/Machine/HostOps.lean ====
section
/-! DEFINITION. The events by which the host drives and observes the block (44_host_ops.md): `NOP`, `RD`,
`WR`, `RESET` and `TICK`. -/

namespace Sys2Proof.Machine

/-- `NOP` (R240). -/
def execNop (s : State) : Host.Outcome State Fault Refusal := .next s

/-- `RD reg` (R241): the read value is the one before the read's side effect (R243). -/
def execRd (addr : Addr) (s : State) : Host.Outcome State Fault Refusal :=
  .next (readEffect addr { s with out := { s.out with rdataValid := true, rdata := readReg s addr } })

/-- `WR reg, data` (R244). -/
def execWr (addr : Addr) (data : Word) (s : State) : Host.Outcome State Fault Refusal :=
  .next (writeReg addr data s)

/-- `RESET` (R249): every field of the block takes its `RESET_STATE` value (R40, R291). The step's outputs
and the host's pending words are not the block's fields and stay. -/
def execReset (s : State) : Host.Outcome State Fault Refusal :=
  .next { State.resetFor s.params with out := s.out, events := s.events }

/-- `TICK` (R251): 1 µs of time, for the watchdog (R182) and then for the sequencer (R204). -/
def execTick (s : State) : Host.Outcome State Fault Refusal := .next (txTick (wdTick s))

end Sys2Proof.Machine
end

