-- ==== Sys2Proof/Machine/Dispatch.lean ====
section
/-! DEFINITION. The meaning of every instruction: one arm per constructor of Instr. -/

namespace Sys2Proof.Machine

def exec (i : Instr) (s : State) : Host.Outcome State Fault Refusal :=
  match i with
  | .nop => Sys2Proof.Machine.execNop s
  | .edge dir ts => Sys2Proof.Machine.execEdge dir ts s
  | .tick => Sys2Proof.Machine.execTick s
  | .send code bits rep => Sys2Proof.Machine.execSend code bits rep s
  | .wr addr data => Sys2Proof.Machine.execWr addr data s
  | .rd addr => Sys2Proof.Machine.execRd addr s
  | .reset => Sys2Proof.Machine.execReset s
  | .dec0 => Sys2Proof.Machine.execDec0 s
  | .dec1 => Sys2Proof.Machine.execDec1 s
  | .dec2 => Sys2Proof.Machine.execDec2 s
  | .dec3 => Sys2Proof.Machine.execDec3 s
  | .dec4 => Sys2Proof.Machine.execDec4 s
  | .dec5 => Sys2Proof.Machine.execDec5 s
  | .dec6 => Sys2Proof.Machine.execDec6 s
  | .dec7 => Sys2Proof.Machine.execDec7 s

end Sys2Proof.Machine
end

