-- ==== Sys2Proof/Machine/Staging.lean ====
section
/-! DEFINITION. How a selector action comes to run in the next step: the phase-3 start state of
95_test_vectors.md §2.2, in which the next `EDGE` forms that selector. The selector is internal (R93), so
no event word names it (log entry 4). -/

namespace Sys2Proof.Machine

/-- A duration that the reset windows class as Long when `long`, else as Short: 834 and 417 µs (R120). -/
def stagedDuration (long : Bool) : Word := if long then 834 else 417

/-- The receiver at a rising edge whose bit-decode step forms the selector `sel`, and that edge presented
next. The windows are those of reset, so that the two durations class as they must. -/
def stageSelector (sel : Selector) (s : State) : State :=
  { s with
    ctl := { s.ctl with rxEn := true }
    timing :=
      { s.timing with
        shortMin := Config.shortMinReset, shortMax := Config.shortMaxReset
        longMin := Config.longMinReset, longMax := Config.longMaxReset }
    dec :=
      { s.dec with
        rxEcnt := 3, rxPrev := sel.getLsbD 2, rxPendHigh := stagedDuration (sel.getLsbD 0) }
    events := edgeWord true (s.dec.rxPrevTs + stagedDuration (sel.getLsbD 1)) :: s.events }

/-- A code placed so that the very next step runs it: an event word is presented next, a selector is
staged. -/
def stageCode (c : Code) (s : State) : State :=
  match c with
  | .event w => { s with events := w :: s.events }
  | .selector sel => stageSelector sel s

end Sys2Proof.Machine
end

