-- ==== Sys2Proof/Machine/Step.lean ====
section
/-! DEFINITION. The step (44_host_ops.md R252): take the next event word, decode it, run the instruction
or record an illegal word, and give the outputs. -/

namespace Sys2Proof.Machine

/-- One step. With no word presented the block waits (log entry 2). -/
def step (s : State) : Host.Outcome State Fault Refusal :=
  match nextEvent s with
  | none => .next (idleStep s)
  | some (w, rest) =>
    match decode w with
    | .ok i => finish (exec i (beginStep rest s))
    | .error _ => .next (illegalStep (beginStep rest s))

/-- `s` with a table row's instruction placed where the next step takes it: at the head of the pending
event words, or, for a selector row, staged as the selector of the next edge (log entries 1 and 4). -/
def State.withFetchWord (s : State) (nbits w : Nat) : State := stageCode (tableCode nbits w) s

end Sys2Proof.Machine
end

