-- ==== Sys2Proof/Machine/HostSide.lean ====
section
/-! DEFINITION. The host's side as far as the spec gives it: the pseudo-instructions of 30_encoding.md R97,
the blocking send of 43_tx_transmitter.md R215, and the loopback wiring of 70_reset_and_hazards.md R302
with the harness of 95_test_vectors.md §3.6. None of this is the block's behaviour; it drives the block by
event words alone. -/

namespace Sys2Proof.Machine

/-- `TICKS n` (R97). -/
def ticks (n : Nat) : List EventWord := List.replicate n tickWord

/-- The edges of a list of pulses that begins at time `t` from `level`, `wait` µs after the last edge: an
`EDGE` at each change of level, `TICK`s between two edges, none after the last (R97; log entry 11). -/
def manchFrom (level : Level) (t wait : Nat) : List Pulse → List EventWord
  | [] => []
  | p :: ps =>
    if p.level = level then manchFrom level (t + p.dur.toNat) (wait + p.dur.toNat) ps
    else ticks wait ++ edgeWord p.level (BitVec.ofNat 32 t) ::
      manchFrom p.level (t + p.dur.toNat) p.dur.toNat ps

/-- `MANCH code, bits, t0` with `TE` = `te` (R97): the chain starts at `t0` from line level 1. -/
def manch (code : Word) (bits : Nat) (te : Half) (t0 : Nat) : List EventWord :=
  manchFrom true t0 0 (chainPulses code bits (te.setWidth 18))

/-- The host presents one word and the block takes it. -/
def present (w : EventWord) (s : State) : Option State :=
  match step { s with events := [w] } with
  | .next t => some t
  | .fault _ => none
  | .refused _ => none

/-- The host presents words one after another (R68). -/
def presentAll : List EventWord → State → Option State
  | [], s => some s
  | w :: ws, s => (present w s).bind (presentAll ws)

/-- How a blocking send ends. -/
inductive SendResult where
  /-- The `SEND` was rejected: `RDATA[1]` was 1. -/
  | rejected
  /-- `TX_BUSY` was read as 0. -/
  | done
  /-- The chain was still playing after the polls allowed. -/
  | stillPolling
deriving DecidableEq, Repr

/-- Poll `STATUS` every `poll` µs until `TX_BUSY` reads 0, at most `polls` times (R97, R215). -/
def pollUntilIdle (poll : Nat) : Nat → State → Option (SendResult × State)
  | 0, s => some (.stillPolling, s)
  | n + 1, s =>
    match presentAll (ticks poll ++ [readWord 0x1]) s with
    | none => none
    | some t => if t.out.rdata.getLsbD 0 then pollUntilIdle poll n t else some (.done, t)

/-- `SEND_WAIT code, bits, repeat` (R97), with a bound on the number of polls. -/
def sendWait (code : Word) (bits : BitVec 6) (rep : Half) (poll polls : Nat) (s : State) :
    Option (SendResult × State) :=
  match presentAll [writeWord 0x1 0x2, sendWord code bits rep, readWord 0x1] s with
  | none => none
  | some t => if t.out.rdata.getLsbD 1 then some (.rejected, t) else pollUntilIdle poll polls t

/-- A delivered frame, and the number of `TICK`s at its delivery. -/
structure Delivered where
  value : Word
  err : Bool
  at_ : Nat
deriving DecidableEq, Repr

/-- The line wired to the edge input (R302): when the step changed the line, the edge is presented. -/
def echoEdge (before : Level) (t : Nat) (s : State) : Option State :=
  if s.tx.txLine = before then some s else present (edgeWord s.tx.txLine (BitVec.ofNat 32 t)) s

/-- `n` `TICK`s with the line wired to the edge input, from `TICK` number `t` on: the frames delivered.
The `TICK` is presented before the edge it makes (95 §3.6). -/
def loopback : Nat → Nat → State → Option (List Delivered)
  | 0, _, _ => some []
  | n + 1, t, s =>
    match present tickWord s with
    | none => none
    | some u =>
      match echoEdge s.tx.txLine (t + 1) u with
      | none => none
      | some v =>
        (loopback n (t + 1) v).map fun ds =>
          if u.out.frameValid then ⟨u.out.frameValue, u.out.frameErr, t + 1⟩ :: ds else ds

/-- The harness of 95 §3.6: after a reset, `SILENCE_US` and `CTRL` = 3 are written, the `SEND` is
presented at `T` = 0 with its edge, then `n` `TICK`s. -/
def loopbackSend (silence : Half) (code : Word) (bits : BitVec 6) (rep : Half) (n : Nat) (s : State) :
    Option (List Delivered) :=
  match presentAll [0xF000000000000000, writeWord 0x8 (silence.setWidth 32), writeWord 0x0 3] s with
  | none => none
  | some s1 =>
    match present (sendWord code bits rep) s1 with
    | none => none
    | some s2 => (echoEdge s1.tx.txLine 0 s2).bind (loopback n 0)

end Sys2Proof.Machine
end

