-- ==== Sys2Proof/Safety.lean ====
section
/-! DEFINITION. What claims about runs are stated in: the states the block's rules keep to (10_state.md R34,
R35, R39; 42_rx_watchdog.md R189, R193; 43_tx_transmitter.md R204; 60_exceptions.md R261), and the numeric
reading of a word's fields (00_scope.md R9). -/

namespace Sys2Proof.Machine

/-- Before the second edge of a frame the decoder holds nothing (R143, R160). -/
abbrev DecoderInv (s : State) : Prop :=
  s.dec.rxEcnt = 0 ∨ s.dec.rxEcnt = 1 →
    s.dec.rxPrev = false ∧ s.dec.rxSr = 0 ∧ s.dec.rxPendHigh = 0 ∧ s.dec.rxErr = false

/-- The timer is armed only while the receiver is enabled (R189); while it is not armed its count is 0 and
no frame is being assembled (R180, R184, R188). -/
abbrev WatchdogInv (s : State) : Prop :=
  (s.wd.wdArmed = true → s.ctl.rxEn = true) ∧
    (s.wd.wdArmed = false → s.wd.wdCnt = 0 ∧ s.dec.rxEcnt = 0)

/-- A chain in flight is at a pulse it has, drives that pulse's level, and has between 1 `TICK` and the
pulse's duration left (R34, R35, R204). -/
abbrev BusyInv (s : State) : Prop :=
  1 ≤ s.tx.txNbits.toNat ∧ s.tx.txNbits.toNat ≤ 32 ∧ s.tx.txTe ≠ 0 ∧ s.tx.txRep ≠ 0 ∧
    s.tx.txElem.toNat ≤ s.tx.txNbits.toNat + 1 ∧
    (s.tx.txElem.toNat = s.tx.txNbits.toNat + 1 → s.tx.txHalf = false) ∧
    s.tx.txRem ≠ 0 ∧
    s.tx.txRem ≤ (pulse s s.tx.txElem.toNat s.tx.txHalf.toNat).dur ∧
    s.tx.txLine = (pulse s s.tx.txElem.toNat s.tx.txHalf.toNat).level

/-- With no chain in flight the position is 0 and the line is at its idle level (R34, R35). -/
abbrev IdleInv (s : State) : Prop :=
  s.tx.txElem = 0 ∧ s.tx.txHalf = false ∧ s.tx.txRem = 0 ∧ s.tx.txRep = 0 ∧
    s.tx.txLine = s.params.txIdleLevel

/-- The sequencer's part of the invariant. -/
abbrev SequencerInv (s : State) : Prop :=
  (s.tx.txBusy = true → BusyInv s) ∧ (s.tx.txBusy = false → IdleInv s)

/-- A cause is recorded exactly while `TX_ERR` is set, and it is 1, 2 or 3 (R261). -/
abbrev ErrorsInv (s : State) : Prop :=
  (s.err.txErr = true ↔ s.err.txCause ≠ 0) ∧ s.err.txCause.toNat ≤ 3

/-- The outputs of the last step (R6). -/
abbrev OutputsInv (s : State) : Prop :=
  (s.out.frameValid = false → s.out.frameValue = 0 ∧ s.out.frameErr = false) ∧
    (s.out.rdataValid = false → s.out.rdata = 0) ∧
    s.out.txLine = s.tx.txLine

/-- The invariant of the block. -/
abbrev Inv (s : State) : Prop :=
  DecoderInv s ∧ WatchdogInv s ∧ SequencerInv s ∧ ErrorsInv s ∧ OutputsInv s

/-- `w[hi:lo]` as a number (R9). -/
def bitsNat (w : EventWord) (hi lo : Nat) : Nat := w.toNat / 2 ^ lo % 2 ^ (hi + 1 - lo)

/-- The decoder in the empty state of R160, its previous timestamp `ts`. -/
def emptyDecoder (ts : Word) : Decoder :=
  { rxEcnt := 0, rxPrev := false, rxSr := 0, rxPendHigh := 0, rxErr := false, rxPrevTs := ts }

/-- `n` steps. -/
def steps : Nat → State → Host.Outcome State Fault Refusal
  | 0, s => .next s
  | n + 1, s =>
    match step s with
    | .next t => steps n t
    | .fault f => .fault f
    | .refused r => .refused r

/-- `WD_CNT` reaches expiry at the next `TICK` (R182). -/
abbrev expiresNext (s : State) : Prop := s.wd.wdArmed = true ∧ s.wd.wdCnt.toNat ≤ 1

/-- An expiry now discards the frame (R186). -/
abbrev discards (s : State) : Prop := s.ctl.abortOnErr = true ∧ s.dec.rxErr = true

/-- Two states that are equal but for the bits of the code in flight that are never sent (R214). -/
def SameSentCode (s s' : State) : Prop :=
  s' = { s with tx := { s.tx with txCode := s'.tx.txCode } } ∧
    ∀ i, i < s.tx.txNbits.toNat → s'.tx.txCode.getLsbD i = s.tx.txCode.getLsbD i

/-- `s` with `TX_GAP_US` = `g`. -/
def withGap (g : Half) (s : State) : State := { s with timing := { s.timing with txGapUs := g } }

end Sys2Proof.Machine
end

