-- ==== Sys2Proof/Certificates/Slice0/Obligations.lean ====
section
/-! DEFINITION. The statements for the provers, each from the numbered rules of spec/ its docstring names. -/

open Sys2Proof Sys2Proof.Machine
open Host.Outcome (next)

/-! ## Encoding -/

/-- Words of 95_test_vectors.md decode to the instructions written beside them. -/
def Obligations.SpecWordsDecode : Prop :=
  decode 0x0000000000000000 = .ok .nop ∧
  decode 0x10000001000001A1 = .ok (.edge true 417) ∧
  decode 0x2000000000000000 = .ok .tick ∧
  decode 0x3000004300000005 = .ok (.send 5 3 1) ∧
  decode 0x4000000800000BB8 = .ok (.wr 8 3000) ∧
  decode 0x5000000300000000 = .ok (.rd 3) ∧
  decode 0xF000000000000000 = .ok .reset

/-- R90: the decoder's eight lines, the fields read as numbers. -/
def Obligations.DecoderIsTheSpecs : Prop :=
  ∀ w : EventWord,
    (bitsNat w 63 60 = 0x0 ∧ bitsNat w 59 0 = 0 → decode w = .ok .nop) ∧
    (bitsNat w 63 60 = 0x1 ∧ bitsNat w 59 33 = 0 →
      decode w = .ok (.edge (decide (bitsNat w 32 32 = 1)) (BitVec.ofNat 32 (bitsNat w 31 0)))) ∧
    (bitsNat w 63 60 = 0x2 ∧ bitsNat w 59 0 = 0 → decode w = .ok .tick) ∧
    (bitsNat w 63 60 = 0x3 ∧ bitsNat w 59 54 = 0 →
      decode w = .ok (.send (BitVec.ofNat 32 (bitsNat w 31 0)) (BitVec.ofNat 6 (bitsNat w 37 32))
        (BitVec.ofNat 16 (bitsNat w 53 38)))) ∧
    (bitsNat w 63 60 = 0x4 ∧ bitsNat w 59 36 = 0 →
      decode w = .ok (.wr (BitVec.ofNat 4 (bitsNat w 35 32)) (BitVec.ofNat 32 (bitsNat w 31 0)))) ∧
    (bitsNat w 63 60 = 0x5 ∧ bitsNat w 59 36 = 0 ∧ bitsNat w 31 0 = 0 →
      decode w = .ok (.rd (BitVec.ofNat 4 (bitsNat w 35 32)))) ∧
    (bitsNat w 63 60 = 0xF ∧ bitsNat w 59 0 = 0 → decode w = .ok .reset) ∧
    (¬ (bitsNat w 63 60 = 0x0 ∧ bitsNat w 59 0 = 0) ∧
      ¬ (bitsNat w 63 60 = 0x1 ∧ bitsNat w 59 33 = 0) ∧
      ¬ (bitsNat w 63 60 = 0x2 ∧ bitsNat w 59 0 = 0) ∧
      ¬ (bitsNat w 63 60 = 0x3 ∧ bitsNat w 59 54 = 0) ∧
      ¬ (bitsNat w 63 60 = 0x4 ∧ bitsNat w 59 36 = 0) ∧
      ¬ (bitsNat w 63 60 = 0x5 ∧ bitsNat w 59 36 = 0 ∧ bitsNat w 31 0 = 0) ∧
      ¬ (bitsNat w 63 60 = 0xF ∧ bitsNat w 59 0 = 0) → ∃ e, decode w = .error e)

/-- Every instruction's code decodes to it, every operand at every value; an event's code is a word. -/
def Obligations.DecodeOfEncode : Prop :=
  ∀ i : Instr, decodeCode (encode i) = .ok i ∧
    (i.wellFormed = true → ∃ w, encodeEvent i = some w ∧ decode w = .ok i) ∧
    (i.wellFormed = false → encodeEvent i = none)

/-- A legal word is the code of the instruction it decodes to: no bit of it is dropped. -/
def Obligations.EncodeOfDecode : Prop :=
  ∀ (w : EventWord) (i : Instr), decode w = .ok i → encode i = .event w ∧ i.wellFormed = true

/-- R96: the words of the textual form, and no truncation. -/
def Obligations.AssemblerWords : Prop :=
  (∀ l : SourceLine, assemble l = none ↔ l.wellFormed = false) ∧
  (assemble .nop).bind encodeEvent = some 0x0000000000000000 ∧
  (assemble .tick).bind encodeEvent = some 0x2000000000000000 ∧
  (assemble .reset).bind encodeEvent = some 0xF000000000000000 ∧
  (∀ (rising : Bool) (ts : Nat), ts < 2 ^ 32 →
    (assemble (.edge rising ts)).bind encodeEvent =
      some (BitVec.ofNat 64 (0x1 * 2 ^ 60 + rising.toNat * 2 ^ 32 + ts))) ∧
  (∀ code bits rep : Nat, code < 2 ^ 32 → bits < 2 ^ 6 → rep < 2 ^ 16 →
    (assemble (.send code bits rep)).bind encodeEvent =
      some (BitVec.ofNat 64 (0x3 * 2 ^ 60 + rep * 2 ^ 38 + bits * 2 ^ 32 + code))) ∧
  (∀ (r : RegRef) (data : Nat), r.addr < 16 → data < 2 ^ 32 →
    (assemble (.wr r data)).bind encodeEvent =
      some (BitVec.ofNat 64 (0x4 * 2 ^ 60 + r.addr * 2 ^ 32 + data))) ∧
  (∀ r : RegRef, r.addr < 16 →
    (assemble (.rd r)).bind encodeEvent = some (BitVec.ofNat 64 (0x5 * 2 ^ 60 + r.addr * 2 ^ 32)))

/-! ## The step -/

/-- A step takes the next word, runs the instruction it decodes to with no output valid, and gives the
line's level as an output at the end (R252). That the words stand in the state is the model's choice (log
entry 1). -/
def Obligations.StepRunsTheDecodedInstruction : Prop :=
  ∀ (s : State) (w : EventWord) (rest : List EventWord) (i : Instr),
    s.events = w :: rest → decode w = .ok i →
    step s =
      match exec i { s with events := rest, out := noOutputs s.out.txLine } with
      | .next t => next { t with out := { t.out with txLine := t.tx.txLine } }
      | .fault f => .fault f
      | .refused r => .refused r

/-- Every step and every instruction answers a next state (R252, R260). -/
def Obligations.EveryStepAnswersNext : Prop :=
  (∀ s : State, ∃ t, step s = next t) ∧ (∀ (i : Instr) (s : State), ∃ t, exec i s = next t)

/-- R250: an illegal word sets `EV_ILL` and does nothing else. -/
def Obligations.IllegalWordOnlySetsEvIll : Prop :=
  ∀ (s : State) (w : EventWord) (rest : List EventWord) (e : IllegalWord),
    s.events = w :: rest → decode w = .error e →
    step s = next { s with err := { s.err with evIll := true }, events := rest, out := noOutputs s.tx.txLine }

/-- With no word presented no field of the block changes and no output is valid. The model's choice
(log entry 2). -/
def Obligations.NoEventChangesNothing : Prop :=
  ∀ s : State, s.events = [] → step s = next { s with out := noOutputs s.tx.txLine }

/-- R6: the outputs of every step. A frame is delivered exactly by a `TICK` that expires the timer and does
not discard the frame, and read data are valid exactly for a `READ`. A step with no word pending (log
entry 2, the model's choice) is one of them. -/
def Obligations.OutputsOfEveryStep : Prop :=
  ∀ s t : State, step s = next t →
    (t.out.frameValid = false → t.out.frameValue = 0 ∧ t.out.frameErr = false) ∧
    (t.out.rdataValid = false → t.out.rdata = 0) ∧
    t.out.txLine = t.tx.txLine ∧
    (t.out.frameValid = true ↔
      ∃ w rest, s.events = w :: rest ∧ decode w = .ok .tick ∧ expiresNext s ∧ ¬ discards s) ∧
    (t.out.rdataValid = true ↔ ∃ w rest a, s.events = w :: rest ∧ decode w = .ok (.rd a))

/-! ## Host events -/

/-- R240: `NOP` leaves the same state; its outputs are not valid and the line is unchanged. -/
def Obligations.NopChangesNothing : Prop :=
  ∀ s : State, exec .nop s = next s ∧
    ∀ rest, s.events = 0x0000000000000000 :: rest →
      step s = next { s with events := rest, out := noOutputs s.tx.txLine }

/-- R241, R243: a read gives the register's value and clears `RX_PEND` for `RX_FRAME` alone. -/
def Obligations.ReadGivesTheRegister : Prop :=
  ∀ (a : Addr) (s : State),
    exec (.rd a) s =
      next { s with
        out := { s.out with rdataValid := true, rdata := readReg s a }
        latch := { s.latch with rxPend := s.latch.rxPend && decide (a.toNat ≠ 2) } }

/-- R242: the read value of every address, as a number. -/
def Obligations.RegisterReadValues : Prop :=
  ∀ (s : State) (a : Addr),
    (a.toNat = 0x0 → (readReg s a).toNat =
      s.ctl.rxEn.toNat + 2 * s.ctl.txEn.toNat + 4 * s.ctl.abortOnErr.toNat) ∧
    (a.toNat = 0x1 → (readReg s a).toNat =
      s.tx.txBusy.toNat + 2 * s.err.txErr.toNat + 4 * s.latch.rxPend.toNat + 8 * s.latch.rxOvr.toNat +
        16 * s.err.evIll.toNat + 32 * (decide (s.dec.rxEcnt ≠ 0)).toNat + 64 * s.wd.wdArmed.toNat +
        128 * s.latch.rxFrameErr.toNat + 256 * s.tx.txLine.toNat + 512 * s.err.txCause.toNat) ∧
    (a.toNat = 0x2 → readReg s a = s.latch.rxFrame) ∧
    (a.toNat = 0x3 → (readReg s a).toNat = s.timing.teUs.toNat) ∧
    (a.toNat = 0x4 → (readReg s a).toNat = s.timing.shortMin.toNat) ∧
    (a.toNat = 0x5 → (readReg s a).toNat = s.timing.shortMax.toNat) ∧
    (a.toNat = 0x6 → (readReg s a).toNat = s.timing.longMin.toNat) ∧
    (a.toNat = 0x7 → (readReg s a).toNat = s.timing.longMax.toNat) ∧
    (a.toNat = 0x8 → (readReg s a).toNat = s.timing.silenceUs.toNat) ∧
    (a.toNat = 0x9 → (readReg s a).toNat = s.timing.txGapUs.toNat) ∧
    (0xA ≤ a.toNat → readReg s a = 0)

/-- R32, R248: a reserved address reads 0, and a write to it or to `RX_FRAME` changes nothing. -/
def Obligations.ReservedAddressesReadZeroIgnoreWrites : Prop :=
  ∀ (a : Addr) (data : Word) (s : State),
    (0xA ≤ a.toNat →
      exec (.rd a) s = next { s with out := { s.out with rdataValid := true, rdata := 0 } }) ∧
    (a.toNat = 0x2 ∨ 0xA ≤ a.toNat → exec (.wr a data) s = next s)

/-- R245: a write to `CTRL`. Bits 31:3 are ignored; a change of `TX_EN` or of `ABORT_ON_ERR` does nothing
else. -/
def Obligations.WriteControl : Prop :=
  ∀ (data : Word) (s : State),
    exec (.wr 0x0 data) s =
      next { s with
        ctl := { rxEn := data.getLsbD 0, txEn := data.getLsbD 1, abortOnErr := data.getLsbD 2 }
        wd :=
          if s.ctl.rxEn = false ∧ data.getLsbD 0 = true then
            { wdArmed := true, wdCnt := s.timing.silenceUs }
          else if s.ctl.rxEn = true ∧ data.getLsbD 0 = false then { wdArmed := false, wdCnt := 0 }
          else s.wd
        dec :=
          if s.ctl.rxEn = true ∧ data.getLsbD 0 = false then emptyDecoder s.dec.rxPrevTs else s.dec }

/-- R246: a write to `STATUS` clears the W1C bits written 1 and nothing else. -/
def Obligations.WriteStatusClears : Prop :=
  ∀ (data : Word) (s : State),
    exec (.wr 0x1 data) s =
      next { s with
        err :=
          { txErr := s.err.txErr && !data.getLsbD 1
            txCause := if data.getLsbD 1 = true then 0 else s.err.txCause
            evIll := s.err.evIll && !data.getLsbD 4 }
        latch := { s.latch with rxOvr := s.latch.rxOvr && !data.getLsbD 3 } }

/-- R247: a write to `0x3` to `0x9` stores the low 16 bits in that timing register; every other register
reads as before, and no other field of the block changes. -/
def Obligations.WriteTimingStores : Prop :=
  ∀ (a : Addr) (data : Word) (s : State), 3 ≤ a.toNat → a.toNat ≤ 9 →
    ∃ g : Timing, exec (.wr a data) s = next { s with timing := g } ∧
      (readReg { s with timing := g } a).toNat = data.toNat % 2 ^ 16 ∧
      (∀ b : Addr, b ≠ a → readReg { s with timing := g } b = readReg s b) ∧
      g.teUs.toNat = (if a.toNat = 3 then data.toNat % 2 ^ 16 else s.timing.teUs.toNat) ∧
      g.shortMin.toNat = (if a.toNat = 4 then data.toNat % 2 ^ 16 else s.timing.shortMin.toNat) ∧
      g.shortMax.toNat = (if a.toNat = 5 then data.toNat % 2 ^ 16 else s.timing.shortMax.toNat) ∧
      g.longMin.toNat = (if a.toNat = 6 then data.toNat % 2 ^ 16 else s.timing.longMin.toNat) ∧
      g.longMax.toNat = (if a.toNat = 7 then data.toNat % 2 ^ 16 else s.timing.longMax.toNat) ∧
      g.silenceUs.toNat = (if a.toNat = 8 then data.toNat % 2 ^ 16 else s.timing.silenceUs.toNat) ∧
      g.txGapUs.toNat = (if a.toNat = 9 then data.toNat % 2 ^ 16 else s.timing.txGapUs.toNat)

/-- R249, R291: `RESET` from any state, in mid-chain and in mid-frame too: every field of the block is at
R40's value; the step outputs no frame and the line is idle. -/
def Obligations.ResetFromAnyState : Prop :=
  ∀ s : State,
    let r := State.resetFor s.params
    (∃ t, exec .reset s = next t ∧ t.ctl = r.ctl ∧ t.timing = r.timing ∧ t.dec = r.dec ∧ t.wd = r.wd ∧
      t.latch = r.latch ∧ t.tx = r.tx ∧ t.err = r.err ∧ t.params = s.params) ∧
    ∀ rest, s.events = 0xF000000000000000 :: rest →
      ∃ t, step s = next t ∧ t.ctl = r.ctl ∧ t.timing = r.timing ∧ t.dec = r.dec ∧ t.wd = r.wd ∧
        t.latch = r.latch ∧ t.tx = r.tx ∧ t.err = r.err ∧ t.params = s.params ∧ t.out = r.out

/-- R40: every field after reset, the line at `TX_IDLE_LEVEL`; `State.reset` is a block whose
`TX_IDLE_LEVEL` is 1. -/
def Obligations.ResetValues : Prop :=
  State.reset = State.resetFor { txIdleLevel := true } ∧
  ∀ p : Params,
    (State.resetFor p).ctl = ⟨false, false, false⟩ ∧
    (State.resetFor p).timing = ⟨417, 350, 490, 760, 900, 1668, 0⟩ ∧
    (State.resetFor p).dec = ⟨0, false, 0, 0, false, 0⟩ ∧
    (State.resetFor p).wd = ⟨false, 0⟩ ∧
    (State.resetFor p).latch = ⟨0, false, false, false⟩ ∧
    (State.resetFor p).tx = ⟨false, p.txIdleLevel, 0, 0, 0, 0, 0, false, 0⟩ ∧
    (State.resetFor p).err = ⟨false, 0, false⟩

/-- R41: the register read values after reset; `STATUS` is `0x100` with `TX_IDLE_LEVEL` = 1 and 0 with
`TX_IDLE_LEVEL` = 0 (R25). -/
def Obligations.RegistersAfterReset : Prop :=
  ∀ p : Params,
    readReg (State.resetFor p) 0x0 = 0x00000000 ∧
    readReg (State.resetFor p) 0x1 = (if p.txIdleLevel = true then 0x00000100 else 0x00000000) ∧
    readReg (State.resetFor p) 0x2 = 0x00000000 ∧
    readReg (State.resetFor p) 0x3 = 0x000001A1 ∧
    readReg (State.resetFor p) 0x4 = 0x0000015E ∧
    readReg (State.resetFor p) 0x5 = 0x000001EA ∧
    readReg (State.resetFor p) 0x6 = 0x000002F8 ∧
    readReg (State.resetFor p) 0x7 = 0x00000384 ∧
    readReg (State.resetFor p) 0x8 = 0x00000684 ∧
    readReg (State.resetFor p) 0x9 = 0x00000000 ∧
    ∀ a : Addr, 0xA ≤ a.toNat → readReg (State.resetFor p) a = 0x00000000

/-- R251, R72: a `TICK` is the watchdog's part and the sequencer's, in either order. -/
def Obligations.TickHalvesCommute : Prop :=
  ∀ s : State, exec .tick s = next (txTick (wdTick s)) ∧ exec .tick s = next (wdTick (txTick s)) ∧
    (wdTick s).tx = s.tx ∧ txTick s = { s with tx := (txTick s).tx }

/-! ## The classifier -/

/-- R120: the class of a duration, as numbers. -/
def Obligations.ClassifierWindows : Prop :=
  ∀ (s : State) (d : Word),
    classify s d =
      if s.timing.shortMin.toNat ≤ d.toNat ∧ d.toNat < s.timing.shortMax.toNat then .short
      else if s.timing.longMin.toNat < d.toNat ∧ d.toNat < s.timing.longMax.toNat then .long
      else .invalid

/-- R121, R122: Short wins where the windows overlap; no duration falls in an empty window, and none of
65536 µs or more in any. -/
def Obligations.ClassifierCorners : Prop :=
  ∀ (s : State) (d : Word),
    (s.timing.shortMin.toNat ≤ d.toNat ∧ d.toNat < s.timing.shortMax.toNat ∧
      s.timing.longMin.toNat < d.toNat ∧ d.toNat < s.timing.longMax.toNat → classify s d = .short) ∧
    (s.timing.shortMax.toNat ≤ s.timing.shortMin.toNat → classify s d ≠ .short) ∧
    (s.timing.longMax.toNat ≤ s.timing.longMin.toNat + 1 → classify s d ≠ .long) ∧
    (65536 ≤ d.toNat → classify s d = .invalid)

/-! ## The frame decoder -/

/-- R159: an edge while the receiver is disabled has no effect at all. -/
def Obligations.EdgeIgnoredWhileDisabled : Prop :=
  ∀ (dir : Level) (ts : Word) (s : State), s.ctl.rxEn = false → exec (.edge dir ts) s = next s

/-- R142: two edge words that differ only in `DIR` give the same step. -/
def Obligations.EdgeDirectionNotUsed : Prop :=
  ∀ (s : State) (dir dir' : Level) (ts : Word) (rest : List EventWord),
    step { s with events := edgeWord dir ts :: rest } = step { s with events := edgeWord dir' ts :: rest }

/-- R143, R144, R180: the two start edges. The elapsed time is not judged; each edge arms the timer. -/
def Obligations.StartEdges : Prop :=
  ∀ (dir : Level) (ts : Word) (s : State), s.ctl.rxEn = true →
    (s.dec.rxEcnt.toNat = 0 →
      exec (.edge dir ts) s =
        next { s with
          dec := { emptyDecoder ts with rxEcnt := 1 }
          wd := { wdArmed := true, wdCnt := s.timing.silenceUs } }) ∧
    (s.dec.rxEcnt.toNat = 1 →
      exec (.edge dir ts) s =
        next { s with
          dec := { s.dec with rxEcnt := 2, rxPrev := true, rxPrevTs := ts }
          wd := { wdArmed := true, wdCnt := s.timing.silenceUs } })

/-- R145, R141, R180: a falling edge records the elapsed time, modulo 2^32, as the pending high
duration. -/
def Obligations.FallingEdgeRecordsHigh : Prop :=
  ∀ (dir : Level) (ts : Word) (s : State), s.ctl.rxEn = true → s.dec.rxEcnt.toNat = 2 →
    exec (.edge dir ts) s =
      next { s with
        dec :=
          { s.dec with
            rxEcnt := 3
            rxPendHigh := BitVec.ofNat 32 ((ts.toNat + 2 ^ 32 - s.dec.rxPrevTs.toNat) % 2 ^ 32)
            rxPrevTs := ts }
        wd := { wdArmed := true, wdCnt := s.timing.silenceUs } }

/-- R146, R147, R180: a rising edge classifies the two durations, records an `Invalid` one, and runs the
selector's action. -/
def Obligations.RisingEdgeRunsTheSelector : Prop :=
  ∀ (dir : Level) (ts : Word) (s : State), s.ctl.rxEn = true → s.dec.rxEcnt.toNat = 3 →
    let high := classify s s.dec.rxPendHigh
    let low := classify s (ts - s.dec.rxPrevTs)
    let sel := 4 * s.dec.rxPrev.toNat + 2 * (decide (low = .long)).toNat + (decide (high = .long)).toNat
    ∃ u : State,
      exec (decodeSelector (BitVec.ofNat 3 sel))
        { s with dec :=
            { s.dec with
              rxPrevTs := ts
              rxErr := s.dec.rxErr || decide (high = .invalid ∨ low = .invalid) } } = next u ∧
      exec (.edge dir ts) s =
        next { u with
          dec := { u.dec with rxEcnt := 2 }
          wd := { wdArmed := true, wdCnt := s.timing.silenceUs } }

/-- R149, R153, R154, R148: the actions that emit one bit. -/
def Obligations.SelectorsEmittingOneBit : Prop :=
  decodeSelector 0b000 = .dec0 ∧ decodeSelector 0b100 = .dec4 ∧ decodeSelector 0b101 = .dec5 ∧
  ∀ s : State,
    exec .dec0 s = next { s with dec :=
      { s.dec with rxSr := BitVec.ofNat 32 (2 * s.dec.rxSr.toNat % 2 ^ 32), rxPrev := false } } ∧
    exec .dec4 s = next { s with dec :=
      { s.dec with rxSr := BitVec.ofNat 32 ((2 * s.dec.rxSr.toNat + 1) % 2 ^ 32), rxPrev := true } } ∧
    exec .dec5 s = next { s with dec :=
      { s.dec with rxSr := BitVec.ofNat 32 (2 * s.dec.rxSr.toNat % 2 ^ 32), rxPrev := false } }

/-- R151, R156, R148: the actions that emit 0 and then 1. -/
def Obligations.SelectorsEmittingTwoBits : Prop :=
  decodeSelector 0b010 = .dec2 ∧ decodeSelector 0b111 = .dec7 ∧
  ∀ s : State,
    exec .dec2 s = next { s with dec :=
      { s.dec with rxSr := BitVec.ofNat 32 ((4 * s.dec.rxSr.toNat + 1) % 2 ^ 32), rxPrev := true } } ∧
    exec .dec7 s = next { s with dec :=
      { s.dec with rxSr := BitVec.ofNat 32 ((4 * s.dec.rxSr.toNat + 1) % 2 ^ 32), rxPrev := true } }

/-- R150, R152, R155: a protocol error sets `RX_ERR`, emits no bit and leaves `RX_PREV`. -/
def Obligations.ProtocolErrorSelectors : Prop :=
  decodeSelector 0b001 = .dec1 ∧ decodeSelector 0b011 = .dec3 ∧ decodeSelector 0b110 = .dec6 ∧
  ∀ s : State,
    exec .dec1 s = next { s with dec := { s.dec with rxErr := true } } ∧
    exec .dec3 s = next { s with dec := { s.dec with rxErr := true } } ∧
    exec .dec6 s = next { s with dec := { s.dec with rxErr := true } }

/-- The model's staging of a selector row (log entry 4): after `withFetchWord` with a selector row's bits,
the next step performs that row's action on the shift register and on `RX_PREV`. -/
def Obligations.StagedSelectorRuns : Prop :=
  ∀ (k : Nat) (s : State), k < 8 →
    ∃ (i : Instr) (u t : State),
      decodeTableWord 8 k = some i ∧
      exec i { s with dec := { s.dec with rxPrev := k.testBit 2 } } = next u ∧
      step (s.withFetchWord 8 k) = next t ∧
      t.dec.rxSr = u.dec.rxSr ∧ t.dec.rxPrev = u.dec.rxPrev ∧ t.dec.rxErr = u.dec.rxErr ∧
      t.events = s.events

/-! ## The watchdog -/

/-- R182: the watchdog's part of a `TICK` while the timer does not expire. -/
def Obligations.TickCountsTheSilence : Prop :=
  ∀ s : State, ¬ expiresNext s →
    exec .tick s = next { s with
      tx := (txTick s).tx
      wd := if s.wd.wdArmed = true then { s.wd with wdCnt := s.wd.wdCnt - 1 } else s.wd }

/-- R184, R185: an expiry that does not discard delivers the frame: in the outputs and in the latch, with
an overrun recorded; the timer is disarmed and the decoder empty. -/
def Obligations.ExpiryDelivers : Prop :=
  ∀ s : State, expiresNext s → ¬ discards s →
    exec .tick s = next { s with
      tx := (txTick s).tx
      wd := { wdArmed := false, wdCnt := 0 }
      dec := emptyDecoder s.dec.rxPrevTs
      out := { s.out with frameValid := true, frameValue := s.dec.rxSr, frameErr := s.dec.rxErr }
      latch :=
        { rxFrame := s.dec.rxSr, rxFrameErr := s.dec.rxErr, rxPend := true
          rxOvr := s.latch.rxOvr || s.latch.rxPend } }

/-- R186: under abort-on-error a frame with an error is discarded at expiry: no output, the latch
unchanged, the decoder cleared all the same. -/
def Obligations.AbortDiscardsTheFrame : Prop :=
  ∀ s : State, expiresNext s → discards s →
    exec .tick s = next { s with
      tx := (txTick s).tx
      wd := { wdArmed := false, wdCnt := 0 }
      dec := emptyDecoder s.dec.rxPrevTs }

/-- R191: `N` `TICK`s after the timer was armed with `N`, and nothing between, exactly one frame is
delivered, by the `N`-th. -/
def Obligations.SilenceDeliversExactlyOneFrame : Prop :=
  ∀ (s : State) (n : Nat) (rest : List EventWord),
    s.wd.wdArmed = true → s.wd.wdCnt.toNat = n → 1 ≤ n → ¬ discards s → s.events = ticks n ++ rest →
    (∀ k, 1 ≤ k → k < n → ∃ t, steps k s = next t ∧ t.out.frameValid = false ∧
      t.dec = s.dec ∧ t.latch = s.latch ∧ t.wd.wdCnt.toNat = n - k) ∧
    ∃ t, steps n s = next t ∧ t.out.frameValid = true ∧ t.out.frameValue = s.dec.rxSr ∧
      t.out.frameErr = s.dec.rxErr ∧ t.wd.wdArmed = false ∧ t.events = rest

/-- R69: an edge and the `TICK` that would expire the timer, in either order. With the edge first the timer
is armed again with `SILENCE_US`, which must be 2 or more for that `TICK` not to expire it (R183). -/
def Obligations.EdgeAndExpiringTickInEitherOrder : Prop :=
  ∀ (s : State) (dir : Level) (ts : Word) (rest : List EventWord),
    s.ctl.rxEn = true → expiresNext s → ¬ discards s → 2 ≤ s.timing.silenceUs.toNat →
    (∃ t u, step { s with events := edgeWord dir ts :: tickWord :: rest } = next t ∧ step t = next u ∧
      t.out.frameValid = false ∧ u.out.frameValid = false ∧ u.wd.wdArmed = true ∧ u.latch = s.latch) ∧
    (∃ t u, step { s with events := tickWord :: edgeWord dir ts :: rest } = next t ∧ step t = next u ∧
      t.out.frameValid = true ∧ t.out.frameValue = s.dec.rxSr ∧ u.out.frameValid = false ∧
      u.dec.rxEcnt = 1 ∧ u.dec.rxSr = 0)

/-! ## The transmitter -/

/-- R201, R202: a `SEND` is rejected with the first cause that holds and changes nothing else, or its chain
is captured whole and the first pulse of `START` begins. -/
def Obligations.SendRejectsOrAccepts : Prop :=
  ∀ (code : Word) (bits : BitVec 6) (rep : Half) (s : State),
    (s.ctl.txEn = false →
      exec (.send code bits rep) s = next { s with err := { s.err with txErr := true, txCause := 3 } }) ∧
    (s.ctl.txEn = true ∧ s.tx.txBusy = true →
      exec (.send code bits rep) s = next { s with err := { s.err with txErr := true, txCause := 2 } }) ∧
    (s.ctl.txEn = true ∧ s.tx.txBusy = false ∧
        (bits.toNat < 1 ∨ 32 < bits.toNat ∨ rep.toNat < 1 ∨ s.timing.teUs.toNat = 0) →
      exec (.send code bits rep) s = next { s with err := { s.err with txErr := true, txCause := 1 } }) ∧
    (s.ctl.txEn = true ∧ s.tx.txBusy = false ∧ 1 ≤ bits.toNat ∧ bits.toNat ≤ 32 ∧ 1 ≤ rep.toNat ∧
        s.timing.teUs.toNat ≠ 0 →
      exec (.send code bits rep) s =
        next { s with tx :=
          { txBusy := true, txLine := false, txCode := code, txNbits := bits, txRep := rep
            txTe := s.timing.teUs, txElem := 0, txHalf := false
            txRem := BitVec.ofNat 18 s.timing.teUs.toNat } })

/-- R203, R95: the pulses of a chain: `START`, one template per bit from bit `n - 1` down, `STOP`; `2n + 3`
pulses, which last `(2n + 6)·TE` µs. -/
def Obligations.ChainOfPulses : Prop :=
  ∀ (code : Word) (n : Nat) (te : Half),
    let t := te.setWidth 18
    chainPulses code n t =
      [⟨false, t⟩, ⟨true, t⟩] ++
        (List.range n).flatMap (fun j =>
          let b := code.getLsbD (n - 1 - j)
          [⟨!b, t⟩, ⟨b, t⟩]) ++ [⟨false, 4 * t⟩] ∧
    (chainPulses code n t).length = 2 * n + 3 ∧
    ((chainPulses code n t).map (·.dur.toNat)).sum = (2 * n + 6) * te.toNat

/-- R204: with no chain, or in the middle of a pulse, the sequencer's part of a `TICK` only counts. -/
def Obligations.TickCountsThePulse : Prop :=
  ∀ s : State,
    (s.tx.txBusy = false → exec .tick s = next (wdTick s)) ∧
    (s.tx.txBusy = true ∧ s.tx.txRem ≠ 1 →
      exec .tick s = next { wdTick s with tx := { s.tx with txRem := s.tx.txRem - 1 } })

/-- R205, R206: the end of a pulse that is not the last of its chain. Inside an element the level becomes
high in `START` and the bit's value in a bit; the next element opens with the complement of its bit, or is
`STOP`, low for `4·TE`. -/
def Obligations.PulseEndsInsideTheChain : Prop :=
  ∀ s : State, s.tx.txBusy = true → s.tx.txRem = 1 → s.tx.txElem.toNat ≤ s.tx.txNbits.toNat →
    (s.tx.txHalf = false →
      exec .tick s = next { wdTick s with tx :=
        { s.tx with
          txHalf := true
          txLine := decide (s.tx.txElem = 0) ||
            s.tx.txCode.getLsbD (s.tx.txNbits.toNat - s.tx.txElem.toNat)
          txRem := BitVec.ofNat 18 s.tx.txTe.toNat } }) ∧
    (s.tx.txHalf = true ∧ s.tx.txElem.toNat < s.tx.txNbits.toNat →
      exec .tick s = next { wdTick s with tx :=
        { s.tx with
          txElem := s.tx.txElem + 1
          txHalf := false
          txLine := !s.tx.txCode.getLsbD (s.tx.txNbits.toNat - 1 - s.tx.txElem.toNat)
          txRem := BitVec.ofNat 18 s.tx.txTe.toNat } }) ∧
    (s.tx.txHalf = true ∧ s.tx.txElem.toNat = s.tx.txNbits.toNat →
      exec .tick s = next { wdTick s with tx :=
        { s.tx with
          txElem := s.tx.txElem + 1
          txHalf := false
          txLine := false
          txRem := BitVec.ofNat 18 (4 * s.tx.txTe.toNat) } })

/-- R207, R208: the end of `STOP`. The chain is played again at once while plays are left; else it is
complete and the line goes to its idle level. -/
def Obligations.StopEndsThePlay : Prop :=
  ∀ s : State, s.tx.txBusy = true → s.tx.txRem = 1 → s.tx.txHalf = false →
    s.tx.txElem.toNat = s.tx.txNbits.toNat + 1 →
    (1 < s.tx.txRep.toNat →
      exec .tick s = next { wdTick s with tx :=
        { s.tx with
          txRep := s.tx.txRep - 1, txElem := 0, txHalf := false, txLine := false
          txRem := BitVec.ofNat 18 s.tx.txTe.toNat } }) ∧
    (s.tx.txRep.toNat ≤ 1 →
      exec .tick s = next { wdTick s with tx :=
        { s.tx with
          txBusy := false, txLine := s.params.txIdleLevel, txRem := 0, txElem := 0, txHalf := false
          txRep := 0 } })

/-- R209, R210: an accepted chain of `n` bits and `r` plays is busy for exactly `r·(2n + 6)·TE` `TICK`s, and
after `k` of them the line is the level at offset `k mod P` of its pulses. -/
def Obligations.ChainPlaysItsPulses : Prop :=
  ∀ (s : State) (code : Word) (bits : BitVec 6) (rep : Half) (k : Nat) (rest : List EventWord),
    s.ctl.txEn = true → s.tx.txBusy = false → 1 ≤ bits.toNat → bits.toNat ≤ 32 → 1 ≤ rep.toNat →
    s.timing.teUs.toNat ≠ 0 →
    s.events = sendWord code bits rep :: (ticks k ++ rest) →
    let te := s.timing.teUs
    let p := (2 * bits.toNat + 6) * te.toNat
    (k < rep.toNat * p →
      ∃ t, steps (k + 1) s = next t ∧ t.tx.txBusy = true ∧
        t.out.txLine = levelAt (chainPulses code bits.toNat (te.setWidth 18)) (k % p)) ∧
    (k = rep.toNat * p →
      ∃ t, steps (k + 1) s = next t ∧ t.tx.txBusy = false ∧ t.out.txLine = s.params.txIdleLevel)

/-- R214: the bits of the code above the bit count have no effect: two states that differ only in bits of
the code in flight that are not sent stay so, whatever words are presented, and drive the same line. -/
def Obligations.UnsentCodeBitsHaveNoEffect : Prop :=
  ∀ s s' : State, SequencerInv s → SameSentCode s s' →
    ∃ t t', step s = next t ∧ step s' = next t' ∧ SameSentCode t t' ∧ t'.out = t.out

/-- R211: `TX_GAP_US` has no effect: a step of two states that differ only in it gives two states that
differ only in it, but for a read of its own address. -/
def Obligations.GapHasNoEffect : Prop :=
  ∀ (s : State) (g : Half), (∀ w rest, s.events = w :: rest → decode w ≠ .ok (.rd 9)) →
    ∃ t t', step s = next t ∧ step (withGap g s) = next t' ∧ withGap 0 t' = withGap 0 t

/-! ## Frames and whole-machine rules -/

/-- What each event leaves unchanged: every group of fields it does not name. -/
def Obligations.FramesOfEvents : Prop :=
  ∀ s t : State,
    (∀ dir ts, exec (.edge dir ts) s = next t → t = { s with dec := t.dec, wd := t.wd }) ∧
    (∀ code bits rep, exec (.send code bits rep) s = next t →
      t = { s with tx := t.tx, err := { t.err with evIll := s.err.evIll } }) ∧
    (∀ a, exec (.rd a) s = next t →
      t = { s with
        out := { s.out with rdataValid := true, rdata := t.out.rdata }
        latch := { s.latch with rxPend := t.latch.rxPend } }) ∧
    (∀ a data, exec (.wr a data) s = next t → t.tx = s.tx ∧ t.out = s.out ∧ t.events = s.events ∧
      t.params = s.params ∧ t.dec.rxPrevTs = s.dec.rxPrevTs ∧
      t.latch = { s.latch with rxOvr := t.latch.rxOvr }) ∧
    (exec .tick s = next t →
      t = { s with
        wd := t.wd, latch := t.latch, tx := t.tx
        dec := { t.dec with rxPrevTs := s.dec.rxPrevTs }
        out := { t.out with rdataValid := s.out.rdataValid, rdata := s.out.rdata, txLine := s.out.txLine } })

/-- What the selector actions leave unchanged: everything but the shift register, `RX_PREV` and `RX_ERR`. -/
def Obligations.FramesOfSelectors : Prop :=
  ∀ (i : Instr) (s t : State), i.wellFormed = false → exec i s = next t →
    t = { s with dec :=
      { s.dec with rxSr := t.dec.rxSr, rxPrev := t.dec.rxPrev, rxErr := t.dec.rxErr } }

/-- R39, R73: while a chain plays, no instruction but `RESET` changes its code, bit count or TE, and the
plays left never grow. -/
def Obligations.ChainInFlightIsImmutable : Prop :=
  ∀ (i : Instr) (s t : State), i ≠ .reset → s.tx.txBusy = true → exec i s = next t →
    t.tx.txCode = s.tx.txCode ∧ t.tx.txNbits = s.tx.txNbits ∧ t.tx.txTe = s.tx.txTe ∧
      t.tx.txRep.toNat ≤ s.tx.txRep.toNat

/-- Configuration changes only by the host: a timing register by a write to its space or a reset, `CTRL` by
a write to it or a reset (R27 to R31, R245, R247). The pending words are the host's (log entry 1, the model's
choice). -/
def Obligations.ConfigurationChangesOnlyByTheHost : Prop :=
  ∀ (i : Instr) (s t : State), exec i s = next t →
    (t.timing ≠ s.timing → i = .reset ∨ ∃ a data, i = .wr a data ∧ 3 ≤ a.toNat ∧ a.toNat ≤ 9) ∧
    (t.ctl ≠ s.ctl → i = .reset ∨ ∃ data, i = .wr 0x0 data) ∧
    t.params = s.params ∧ t.events = s.events

/-- R38: a sticky indication is cleared only by its W1C bit or by a reset. -/
def Obligations.StickyIndicationsStay : Prop :=
  ∀ (i : Instr) (s t : State), exec i s = next t →
    (s.err.txErr = true → t.err.txErr = false → i = .reset ∨ ∃ d, i = .wr 0x1 d ∧ d.getLsbD 1 = true) ∧
    (s.latch.rxOvr = true → t.latch.rxOvr = false →
      i = .reset ∨ ∃ d, i = .wr 0x1 d ∧ d.getLsbD 3 = true) ∧
    (s.err.evIll = true → t.err.evIll = false → i = .reset ∨ ∃ d, i = .wr 0x1 d ∧ d.getLsbD 4 = true) ∧
    (t.err.txCause ≠ s.err.txCause →
      i = .reset ∨ (∃ d, i = .wr 0x1 d ∧ d.getLsbD 1 = true) ∨
        ((∃ c b r, i = .send c b r) ∧ t.err.txErr = true))

/-- R36: the frame latch changes only at a delivery, at a read of `RX_FRAME` (its `RX_PEND`), at a W1C
write of `STATUS` bit 3 (its `RX_OVR`), and at reset. -/
def Obligations.LatchChangesOnlyAsSaid : Prop :=
  ∀ (i : Instr) (s t : State), exec i s = next t → t.latch ≠ s.latch →
    (i = .tick ∧ expiresNext s ∧ t.out.frameValid = true) ∨
    (i = .rd 0x2 ∧ t.latch = { s.latch with rxPend := false }) ∨
    (∃ d, i = .wr 0x1 d ∧ d.getLsbD 3 = true ∧ t.latch = { s.latch with rxOvr := false }) ∨
    i = .reset

/-- R37: the error flag of a frame is cleared only when the decoder is cleared: at the first edge of a
frame, at expiry, when the receiver is disabled, and at reset. -/
def Obligations.FrameErrorFlagClearedOnlyWithTheDecoder : Prop :=
  ∀ (i : Instr) (s t : State), exec i s = next t → s.dec.rxErr = true → t.dec.rxErr = false →
    (∃ dir ts, i = .edge dir ts ∧ s.ctl.rxEn = true ∧ s.dec.rxEcnt = 0) ∨
    (i = .tick ∧ expiresNext s) ∨
    (∃ d, i = .wr 0x0 d ∧ s.ctl.rxEn = true ∧ d.getLsbD 0 = false) ∨
    i = .reset

/-- The invariant holds after reset, whatever the idle level. The outputs after reset are the model's (log
entry 3). -/
def Obligations.InvAtReset : Prop := Inv State.reset ∧ ∀ p : Params, Inv (State.resetFor p)

/-- Every step keeps the invariant (R34, R35, R39, R189, R193, R204, R261, R6). -/
def Obligations.StepKeepsInv : Prop :=
  ∀ s t : State, Inv s → step s = next t → Inv t
end

