-- ==== Sys2Proof/Laws/Decode.lean ====
section
/-! SUPPORT. The event words as numbers, and their fields. -/

namespace Sys2Proof

/-- The number of two bit vectors laid side by side. -/
theorem toNat_append_add {m n : Nat} (x : BitVec m) (y : BitVec n) :
    (x ++ y).toNat = x.toNat * 2 ^ n + y.toNat := by
  rw [BitVec.toNat_append, ← Nat.shiftLeft_add_eq_or_of_lt y.isLt, Nat.shiftLeft_eq]

theorem edgeWord_toNat (dir : Level) (ts : Word) :
    (edgeWord dir ts).toNat = 0x1 * 2 ^ 60 + dir.toNat * 2 ^ 32 + ts.toNat := by
  simp only [edgeWord, toNat_append_add]
  simp; omega

theorem sendWord_toNat (code : Word) (bits : BitVec 6) (rep : Half) :
    (sendWord code bits rep).toNat =
      0x3 * 2 ^ 60 + rep.toNat * 2 ^ 38 + bits.toNat * 2 ^ 32 + code.toNat := by
  simp only [sendWord, toNat_append_add]
  simp; omega

theorem writeWord_toNat (addr : Addr) (data : Word) :
    (writeWord addr data).toNat = 0x4 * 2 ^ 60 + addr.toNat * 2 ^ 32 + data.toNat := by
  simp only [writeWord, toNat_append_add]
  simp; omega

theorem readWord_toNat (addr : Addr) :
    (readWord addr).toNat = 0x5 * 2 ^ 60 + addr.toNat * 2 ^ 32 := by
  simp only [readWord, toNat_append_add]
  simp; omega

/-- A field of a word as a number. -/
theorem field_toNat (w : EventWord) (lo len : Nat) :
    (w.extractLsb' lo len).toNat = w.toNat / 2 ^ lo % 2 ^ len := by
  rw [BitVec.extractLsb'_toNat, Nat.shiftRight_eq_div_pow]

end Sys2Proof
end

