-- ==== Sys2Proof/Laws/PerInstr.lean ====
section
/-! SUPPORT. For every instruction: its code has the fixed bits its row of spec/opcode_table.json gives it
("match" under "mask"). -/

namespace Sys2Proof.Laws.TableRow

/-- The row's mask of fixed bits. -/
def mask : Instr → Nat
  | .nop => 0xFFFFFFFFFFFFFFFF
  | .edge _ _ => 0xFFFFFFFE00000000
  | .tick => 0xFFFFFFFFFFFFFFFF
  | .send _ _ _ => 0xFFC0000000000000
  | .wr _ _ => 0xFFFFFFF000000000
  | .rd _ => 0xFFFFFFF0FFFFFFFF
  | .reset => 0xFFFFFFFFFFFFFFFF
  | .dec0 | .dec1 | .dec2 | .dec3 | .dec4 | .dec5 | .dec6 | .dec7 => 0b111

/-- The row's value under its mask. -/
def pattern : Instr → Nat
  | .nop => 0x0000000000000000
  | .edge _ _ => 0x1000000000000000
  | .tick => 0x2000000000000000
  | .send _ _ _ => 0x3000000000000000
  | .wr _ _ => 0x4000000000000000
  | .rd _ => 0x5000000000000000
  | .reset => 0xF000000000000000
  | .dec0 => 0b000
  | .dec1 => 0b001
  | .dec2 => 0b010
  | .dec3 => 0b011
  | .dec4 => 0b100
  | .dec5 => 0b101
  | .dec6 => 0b110
  | .dec7 => 0b111

/-- The bits of a code as a number. -/
def codeNat : Code → Nat
  | .event w => w.toNat
  | .selector sel => sel.toNat

/-- The instruction's code agrees with its row. -/
def Statement (i : Instr) : Prop := codeNat (encode i) &&& mask i = pattern i

theorem nop : Statement .nop := by unfold Statement; decide
theorem tick : Statement .tick := by unfold Statement; decide
theorem reset : Statement .reset := by unfold Statement; decide
theorem dec0 : Statement .dec0 := by unfold Statement; decide
theorem dec1 : Statement .dec1 := by unfold Statement; decide
theorem dec2 : Statement .dec2 := by unfold Statement; decide
theorem dec3 : Statement .dec3 := by unfold Statement; decide
theorem dec4 : Statement .dec4 := by unfold Statement; decide
theorem dec5 : Statement .dec5 := by unfold Statement; decide
theorem dec6 : Statement .dec6 := by unfold Statement; decide
theorem dec7 : Statement .dec7 := by unfold Statement; decide

/-- A mask test on a word is a mask test on its number. -/
theorem and_toNat {w m p : EventWord} (h : w &&& m = p) : w.toNat &&& m.toNat = p.toNat := by
  rw [← BitVec.toNat_and, h]

theorem edge (dir : Level) (ts : Word) : Statement (.edge dir ts) := by
  refine and_toNat (w := edgeWord dir ts) (m := 0xF#4 ++ 0x7FFFFFF#27 ++ 0#1 ++ 0#32)
    (p := 0x1000000000000000) ?_
  rw [edgeWord, BitVec.and_append, BitVec.and_append, BitVec.and_append]
  simp

theorem send (code : Word) (bits : BitVec 6) (rep : Half) : Statement (.send code bits rep) := by
  refine and_toNat (w := sendWord code bits rep) (m := 0xF#4 ++ 0x3F#6 ++ 0#16 ++ 0#6 ++ 0#32)
    (p := 0x3000000000000000) ?_
  rw [sendWord, BitVec.and_append, BitVec.and_append, BitVec.and_append, BitVec.and_append]
  simp

theorem wr (addr : Addr) (data : Word) : Statement (.wr addr data) := by
  refine and_toNat (w := writeWord addr data) (m := 0xF#4 ++ 0xFFFFFF#24 ++ 0#4 ++ 0#32)
    (p := 0x4000000000000000) ?_
  rw [writeWord, BitVec.and_append, BitVec.and_append, BitVec.and_append]
  simp

theorem rd (addr : Addr) : Statement (.rd addr) := by
  refine and_toNat (w := readWord addr) (m := 0xF#4 ++ 0xFFFFFF#24 ++ 0#4 ++ 0xFFFFFFFF#32)
    (p := 0x5000000000000000) ?_
  rw [readWord, BitVec.and_append, BitVec.and_append, BitVec.and_append]
  simp

end Sys2Proof.Laws.TableRow
end

