-- ==== Sys2Proof/Laws/State.lean ====
section
/-! SUPPORT. One lemma per group of fields for every unconditional update of the state, true by
unfolding, so that no later proof unfolds an update. -/

namespace Sys2Proof.Machine

variable (s : State)

@[simp] theorem setRxErr_ctl : (setRxErr s).ctl = s.ctl := rfl
@[simp] theorem setRxErr_timing : (setRxErr s).timing = s.timing := rfl
@[simp] theorem setRxErr_dec : (setRxErr s).dec = { s.dec with rxErr := true } := rfl
@[simp] theorem setRxErr_wd : (setRxErr s).wd = s.wd := rfl
@[simp] theorem setRxErr_latch : (setRxErr s).latch = s.latch := rfl
@[simp] theorem setRxErr_tx : (setRxErr s).tx = s.tx := rfl
@[simp] theorem setRxErr_err : (setRxErr s).err = s.err := rfl
@[simp] theorem setRxErr_out : (setRxErr s).out = s.out := rfl
@[simp] theorem setRxErr_events : (setRxErr s).events = s.events := rfl
@[simp] theorem setRxErr_params : (setRxErr s).params = s.params := rfl

@[simp] theorem rejectSend_ctl (c : BitVec 3) : (rejectSend c s).ctl = s.ctl := rfl
@[simp] theorem rejectSend_timing (c : BitVec 3) : (rejectSend c s).timing = s.timing := rfl
@[simp] theorem rejectSend_dec (c : BitVec 3) : (rejectSend c s).dec = s.dec := rfl
@[simp] theorem rejectSend_wd (c : BitVec 3) : (rejectSend c s).wd = s.wd := rfl
@[simp] theorem rejectSend_latch (c : BitVec 3) : (rejectSend c s).latch = s.latch := rfl
@[simp] theorem rejectSend_tx (c : BitVec 3) : (rejectSend c s).tx = s.tx := rfl
@[simp] theorem rejectSend_err (c : BitVec 3) : (rejectSend c s).err = { s.err with txErr := true, txCause := c } := rfl
@[simp] theorem rejectSend_out (c : BitVec 3) : (rejectSend c s).out = s.out := rfl
@[simp] theorem rejectSend_events (c : BitVec 3) : (rejectSend c s).events = s.events := rfl
@[simp] theorem rejectSend_params (c : BitVec 3) : (rejectSend c s).params = s.params := rfl

@[simp] theorem beginStep_ctl (r : List EventWord) : (beginStep r s).ctl = s.ctl := rfl
@[simp] theorem beginStep_timing (r : List EventWord) : (beginStep r s).timing = s.timing := rfl
@[simp] theorem beginStep_dec (r : List EventWord) : (beginStep r s).dec = s.dec := rfl
@[simp] theorem beginStep_wd (r : List EventWord) : (beginStep r s).wd = s.wd := rfl
@[simp] theorem beginStep_latch (r : List EventWord) : (beginStep r s).latch = s.latch := rfl
@[simp] theorem beginStep_tx (r : List EventWord) : (beginStep r s).tx = s.tx := rfl
@[simp] theorem beginStep_err (r : List EventWord) : (beginStep r s).err = s.err := rfl
@[simp] theorem beginStep_out (r : List EventWord) : (beginStep r s).out = noOutputs s.out.txLine := rfl
@[simp] theorem beginStep_events (r : List EventWord) : (beginStep r s).events = r := rfl
@[simp] theorem beginStep_params (r : List EventWord) : (beginStep r s).params = s.params := rfl

@[simp] theorem endStep_ctl : (endStep s).ctl = s.ctl := rfl
@[simp] theorem endStep_timing : (endStep s).timing = s.timing := rfl
@[simp] theorem endStep_dec : (endStep s).dec = s.dec := rfl
@[simp] theorem endStep_wd : (endStep s).wd = s.wd := rfl
@[simp] theorem endStep_latch : (endStep s).latch = s.latch := rfl
@[simp] theorem endStep_tx : (endStep s).tx = s.tx := rfl
@[simp] theorem endStep_err : (endStep s).err = s.err := rfl
@[simp] theorem endStep_out : (endStep s).out = { s.out with txLine := s.tx.txLine } := rfl
@[simp] theorem endStep_events : (endStep s).events = s.events := rfl
@[simp] theorem endStep_params : (endStep s).params = s.params := rfl

@[simp] theorem clearDecoder_ctl : (clearDecoder s).ctl = s.ctl := rfl
@[simp] theorem clearDecoder_timing : (clearDecoder s).timing = s.timing := rfl
@[simp] theorem clearDecoder_dec : (clearDecoder s).dec =
    { rxEcnt := 0, rxPrev := false, rxSr := 0, rxPendHigh := 0, rxErr := false, rxPrevTs := s.dec.rxPrevTs } := rfl
@[simp] theorem clearDecoder_wd : (clearDecoder s).wd = s.wd := rfl
@[simp] theorem clearDecoder_latch : (clearDecoder s).latch = s.latch := rfl
@[simp] theorem clearDecoder_tx : (clearDecoder s).tx = s.tx := rfl
@[simp] theorem clearDecoder_err : (clearDecoder s).err = s.err := rfl
@[simp] theorem clearDecoder_out : (clearDecoder s).out = s.out := rfl
@[simp] theorem clearDecoder_events : (clearDecoder s).events = s.events := rfl
@[simp] theorem clearDecoder_params : (clearDecoder s).params = s.params := rfl

@[simp] theorem armWatchdog_ctl : (armWatchdog s).ctl = s.ctl := rfl
@[simp] theorem armWatchdog_timing : (armWatchdog s).timing = s.timing := rfl
@[simp] theorem armWatchdog_dec : (armWatchdog s).dec = s.dec := rfl
@[simp] theorem armWatchdog_wd : (armWatchdog s).wd = { wdArmed := true, wdCnt := s.timing.silenceUs } := rfl
@[simp] theorem armWatchdog_latch : (armWatchdog s).latch = s.latch := rfl
@[simp] theorem armWatchdog_tx : (armWatchdog s).tx = s.tx := rfl
@[simp] theorem armWatchdog_err : (armWatchdog s).err = s.err := rfl
@[simp] theorem armWatchdog_out : (armWatchdog s).out = s.out := rfl
@[simp] theorem armWatchdog_events : (armWatchdog s).events = s.events := rfl
@[simp] theorem armWatchdog_params : (armWatchdog s).params = s.params := rfl

@[simp] theorem disarmWatchdog_ctl : (disarmWatchdog s).ctl = s.ctl := rfl
@[simp] theorem disarmWatchdog_timing : (disarmWatchdog s).timing = s.timing := rfl
@[simp] theorem disarmWatchdog_dec : (disarmWatchdog s).dec = s.dec := rfl
@[simp] theorem disarmWatchdog_wd : (disarmWatchdog s).wd = { wdArmed := false, wdCnt := 0 } := rfl
@[simp] theorem disarmWatchdog_latch : (disarmWatchdog s).latch = s.latch := rfl
@[simp] theorem disarmWatchdog_tx : (disarmWatchdog s).tx = s.tx := rfl
@[simp] theorem disarmWatchdog_err : (disarmWatchdog s).err = s.err := rfl
@[simp] theorem disarmWatchdog_out : (disarmWatchdog s).out = s.out := rfl
@[simp] theorem disarmWatchdog_events : (disarmWatchdog s).events = s.events := rfl
@[simp] theorem disarmWatchdog_params : (disarmWatchdog s).params = s.params := rfl

@[simp] theorem emit_ctl (b : Bool) : (emit b s).ctl = s.ctl := rfl
@[simp] theorem emit_timing (b : Bool) : (emit b s).timing = s.timing := rfl
@[simp] theorem emit_dec (b : Bool) : (emit b s).dec =
    { s.dec with rxSr := (s.dec.rxSr <<< 1) ||| (BitVec.ofBool b).setWidth 32 } := rfl
@[simp] theorem emit_wd (b : Bool) : (emit b s).wd = s.wd := rfl
@[simp] theorem emit_latch (b : Bool) : (emit b s).latch = s.latch := rfl
@[simp] theorem emit_tx (b : Bool) : (emit b s).tx = s.tx := rfl
@[simp] theorem emit_err (b : Bool) : (emit b s).err = s.err := rfl
@[simp] theorem emit_out (b : Bool) : (emit b s).out = s.out := rfl
@[simp] theorem emit_events (b : Bool) : (emit b s).events = s.events := rfl
@[simp] theorem emit_params (b : Bool) : (emit b s).params = s.params := rfl

@[simp] theorem setPrev_ctl (b : Bool) : (setPrev b s).ctl = s.ctl := rfl
@[simp] theorem setPrev_timing (b : Bool) : (setPrev b s).timing = s.timing := rfl
@[simp] theorem setPrev_dec (b : Bool) : (setPrev b s).dec = { s.dec with rxPrev := b } := rfl
@[simp] theorem setPrev_wd (b : Bool) : (setPrev b s).wd = s.wd := rfl
@[simp] theorem setPrev_latch (b : Bool) : (setPrev b s).latch = s.latch := rfl
@[simp] theorem setPrev_tx (b : Bool) : (setPrev b s).tx = s.tx := rfl
@[simp] theorem setPrev_err (b : Bool) : (setPrev b s).err = s.err := rfl
@[simp] theorem setPrev_out (b : Bool) : (setPrev b s).out = s.out := rfl
@[simp] theorem setPrev_events (b : Bool) : (setPrev b s).events = s.events := rfl
@[simp] theorem setPrev_params (b : Bool) : (setPrev b s).params = s.params := rfl

@[simp] theorem setEcnt_ctl (n : BitVec 2) : (setEcnt n s).ctl = s.ctl := rfl
@[simp] theorem setEcnt_timing (n : BitVec 2) : (setEcnt n s).timing = s.timing := rfl
@[simp] theorem setEcnt_dec (n : BitVec 2) : (setEcnt n s).dec = { s.dec with rxEcnt := n } := rfl
@[simp] theorem setEcnt_wd (n : BitVec 2) : (setEcnt n s).wd = s.wd := rfl
@[simp] theorem setEcnt_latch (n : BitVec 2) : (setEcnt n s).latch = s.latch := rfl
@[simp] theorem setEcnt_tx (n : BitVec 2) : (setEcnt n s).tx = s.tx := rfl
@[simp] theorem setEcnt_err (n : BitVec 2) : (setEcnt n s).err = s.err := rfl
@[simp] theorem setEcnt_out (n : BitVec 2) : (setEcnt n s).out = s.out := rfl
@[simp] theorem setEcnt_events (n : BitVec 2) : (setEcnt n s).events = s.events := rfl
@[simp] theorem setEcnt_params (n : BitVec 2) : (setEcnt n s).params = s.params := rfl

@[simp] theorem accept_ctl (c : Word) (b : BitVec 6) (r : Half) : (accept c b r s).ctl = s.ctl := rfl
@[simp] theorem accept_timing (c : Word) (b : BitVec 6) (r : Half) : (accept c b r s).timing = s.timing := rfl
@[simp] theorem accept_dec (c : Word) (b : BitVec 6) (r : Half) : (accept c b r s).dec = s.dec := rfl
@[simp] theorem accept_wd (c : Word) (b : BitVec 6) (r : Half) : (accept c b r s).wd = s.wd := rfl
@[simp] theorem accept_latch (c : Word) (b : BitVec 6) (r : Half) : (accept c b r s).latch = s.latch := rfl
@[simp] theorem accept_tx (c : Word) (b : BitVec 6) (r : Half) : (accept c b r s).tx =
    { txBusy := true, txLine := false, txCode := c, txNbits := b, txRep := r, txTe := s.timing.teUs, txElem := 0, txHalf := false, txRem := s.timing.teUs.setWidth 18 } := rfl
@[simp] theorem accept_err (c : Word) (b : BitVec 6) (r : Half) : (accept c b r s).err = s.err := rfl
@[simp] theorem accept_out (c : Word) (b : BitVec 6) (r : Half) : (accept c b r s).out = s.out := rfl
@[simp] theorem accept_events (c : Word) (b : BitVec 6) (r : Half) : (accept c b r s).events = s.events := rfl
@[simp] theorem accept_params (c : Word) (b : BitVec 6) (r : Half) : (accept c b r s).params = s.params := rfl

@[simp] theorem startPulse_ctl (e i : Nat) : (startPulse e i s).ctl = s.ctl := rfl
@[simp] theorem startPulse_timing (e i : Nat) : (startPulse e i s).timing = s.timing := rfl
@[simp] theorem startPulse_dec (e i : Nat) : (startPulse e i s).dec = s.dec := rfl
@[simp] theorem startPulse_wd (e i : Nat) : (startPulse e i s).wd = s.wd := rfl
@[simp] theorem startPulse_latch (e i : Nat) : (startPulse e i s).latch = s.latch := rfl
@[simp] theorem startPulse_tx (e i : Nat) : (startPulse e i s).tx =
    { s.tx with txElem := BitVec.ofNat 6 e, txHalf := decide (i ≠ 0), txLine := (pulse s e i).level, txRem := (pulse s e i).dur } := rfl
@[simp] theorem startPulse_err (e i : Nat) : (startPulse e i s).err = s.err := rfl
@[simp] theorem startPulse_out (e i : Nat) : (startPulse e i s).out = s.out := rfl
@[simp] theorem startPulse_events (e i : Nat) : (startPulse e i s).events = s.events := rfl
@[simp] theorem startPulse_params (e i : Nat) : (startPulse e i s).params = s.params := rfl

@[simp] theorem complete_ctl : (complete s).ctl = s.ctl := rfl
@[simp] theorem complete_timing : (complete s).timing = s.timing := rfl
@[simp] theorem complete_dec : (complete s).dec = s.dec := rfl
@[simp] theorem complete_wd : (complete s).wd = s.wd := rfl
@[simp] theorem complete_latch : (complete s).latch = s.latch := rfl
@[simp] theorem complete_tx : (complete s).tx =
    { s.tx with txBusy := false, txLine := s.params.txIdleLevel, txRem := 0, txElem := 0, txHalf := false, txRep := 0 } := rfl
@[simp] theorem complete_err : (complete s).err = s.err := rfl
@[simp] theorem complete_out : (complete s).out = s.out := rfl
@[simp] theorem complete_events : (complete s).events = s.events := rfl
@[simp] theorem complete_params : (complete s).params = s.params := rfl

end Sys2Proof.Machine
end

