-- ==== Sys2Proof/Laws/Receiver.lean ====
section
/-! SUPPORT. What the operations of the receive half do, said once each. -/

namespace Sys2Proof.Machine

variable (s : State)

/-- A selector action changes only the shift register, `RX_PREV` and `RX_ERR`. -/
theorem selectorAction_frame (sel : Selector) :
    selectorAction sel s =
      { s with dec :=
        { s.dec with
          rxSr := (selectorAction sel s).dec.rxSr
          rxPrev := (selectorAction sel s).dec.rxPrev
          rxErr := (selectorAction sel s).dec.rxErr } } := by
  unfold selectorAction
  split <;> rfl

/-- An `Invalid` class sets `RX_ERR`; nothing clears it here. -/
theorem noteInvalid_eq (h l : PulseClass) :
    noteInvalid h l s =
      { s with dec := { s.dec with rxErr := s.dec.rxErr || decide (h = .invalid ∨ l = .invalid) } } := by
  unfold noteInvalid
  split
  · next h => simp [h, flag, setRxErr]
  · next h => simp [h]

/-- The bit-decode step changes only the shift register, `RX_PREV` and `RX_ERR`. -/
theorem bitDecode_frame (h l : Word) :
    bitDecode h l s =
      { s with dec :=
        { s.dec with
          rxSr := (bitDecode h l s).dec.rxSr
          rxPrev := (bitDecode h l s).dec.rxPrev
          rxErr := (bitDecode h l s).dec.rxErr } } := by
  unfold bitDecode
  rw [selectorAction_frame, noteInvalid_eq]

/-- A phase of an edge changes only the decoder, and not its previous timestamp. -/
theorem edgePhase_frame (el : Word) :
    edgePhase el s = { s with dec := { (edgePhase el s).dec with rxPrevTs := s.dec.rxPrevTs } } := by
  unfold edgePhase
  split
  · rfl
  · rfl
  · rfl
  · rw [bitDecode_frame]; rfl

/-- An edge taken changes only the decoder and arms the timer. -/
theorem takeEdge_frame (ts : Word) :
    takeEdge ts s =
      { s with
        dec := { (takeEdge ts s).dec with rxPrevTs := ts }
        wd := { wdArmed := true, wdCnt := s.timing.silenceUs } } := by
  unfold takeEdge
  rw [edgePhase_frame]
  rfl

/-- A delivery writes the outputs and the latch, and records an overrun. -/
theorem deliver_eq (v : Word) (e : Bool) :
    deliver v e s =
      { s with
        out := { s.out with frameValid := true, frameValue := v, frameErr := e }
        latch :=
          { rxFrame := v, rxFrameErr := e, rxPend := true
            rxOvr := s.latch.rxOvr || s.latch.rxPend } } := by
  unfold deliver
  cases h : s.latch.rxPend <;> simp [flag]

/-- An expiry disarms the timer and empties the decoder; it delivers the frame unless it discards it. -/
theorem expire_eq :
    expire s =
      if s.ctl.abortOnErr = true ∧ s.dec.rxErr = true then
        clearDecoder (disarmWatchdog s)
      else deliver s.dec.rxSr s.dec.rxErr (clearDecoder (disarmWatchdog s)) := by
  unfold expire
  simp [Bool.and_eq_true]

/-- The watchdog's part of a `TICK` does one of three things. -/
theorem wdTick_cases :
    (s.wd.wdArmed = false ∧ wdTick s = s) ∨
      (s.wd.wdArmed = true ∧ s.wd.wdCnt.toNat ≤ 1 ∧ wdTick s = expire s) ∨
      (s.wd.wdArmed = true ∧ 1 < s.wd.wdCnt.toNat ∧
        wdTick s = { s with wd := { s.wd with wdCnt := s.wd.wdCnt - 1 } }) := by
  cases ha : s.wd.wdArmed
  · exact .inl ⟨rfl, by simp [wdTick, ha]⟩
  · by_cases h : s.wd.wdCnt ≤ 1
    · exact .inr (.inl ⟨rfl, h, by simp only [wdTick, ha, if_pos h]; rfl⟩)
    · exact .inr (.inr ⟨rfl, Nat.lt_of_not_le h, by simp only [wdTick, ha, if_neg h]; rfl⟩)

/-- The watchdog's part of a `TICK` leaves every field outside the receive half. -/
theorem wdTick_frame :
    wdTick s =
      { s with
        wd := (wdTick s).wd
        dec := { (wdTick s).dec with rxPrevTs := s.dec.rxPrevTs }
        latch := (wdTick s).latch
        out :=
          { (wdTick s).out with
            rdataValid := s.out.rdataValid, rdata := s.out.rdata, txLine := s.out.txLine } } := by
  obtain ⟨-, h⟩ | ⟨-, -, h⟩ | ⟨-, -, h⟩ := wdTick_cases s
  · rw [h]
  · rw [h, expire_eq, deliver_eq]
    split <;> rfl
  · rw [h]

@[simp] theorem wdTick_tx : (wdTick s).tx = s.tx := by rw [wdTick_frame]
@[simp] theorem wdTick_params : (wdTick s).params = s.params := by rw [wdTick_frame]
@[simp] theorem wdTick_ctl : (wdTick s).ctl = s.ctl := by rw [wdTick_frame]
@[simp] theorem wdTick_timing : (wdTick s).timing = s.timing := by rw [wdTick_frame]
@[simp] theorem wdTick_err : (wdTick s).err = s.err := by rw [wdTick_frame]
@[simp] theorem wdTick_events : (wdTick s).events = s.events := by rw [wdTick_frame]

end Sys2Proof.Machine
end

