-- ==== Sys2Proof/Laws/Transmitter.lean ====
section
/-! SUPPORT. What the operations of the transmit half do, said once each. -/

namespace Sys2Proof.Machine

variable (s : State)

theorem elementOf_start (code : Word) (n : Nat) (te : BitVec 18) :
    elementOf code n te 0 = [⟨false, te⟩, ⟨true, te⟩] := rfl

theorem elementOf_stop (code : Word) (n : Nat) (te : BitVec 18) :
    elementOf code n te (n + 1) = [⟨false, 4 * te⟩] := by
  simp [elementOf, stopTemplate]

/-- A data element: the complement of its bit, then its bit. -/
theorem elementOf_bit (code : Word) {n e : Nat} (te : BitVec 18) (h0 : e ≠ 0) (h1 : e ≠ n + 1) :
    elementOf code n te e = [⟨!code.getLsbD (n - e), te⟩, ⟨code.getLsbD (n - e), te⟩] := by
  unfold elementOf
  rw [if_neg h0, if_neg h1]
  cases code.getLsbD (n - e) <;> rfl

/-- `NPULSES` (R203). -/
theorem element_length (e : Nat) :
    (element s e).length = if e = s.tx.txNbits.toNat + 1 then 1 else 2 := by
  unfold element
  by_cases h1 : e = s.tx.txNbits.toNat + 1
  · rw [h1, elementOf_stop]; simp
  · by_cases h0 : e = 0
    · rw [h0, elementOf_start]; simp
    · rw [elementOf_bit _ _ h0 h1]; simp [h1]

/-- What follows a pulse changes only the sequencer. -/
theorem advance_frame : advance s = { s with tx := (advance s).tx } := by
  simp only [advance]
  split
  · rfl
  · split
    · rfl
    · split <;> rfl

/-- The sequencer's part of a `TICK` changes only the sequencer. -/
theorem txTick_frame : txTick s = { s with tx := (txTick s).tx } := by
  simp only [txTick]
  split
  · rfl
  · split
    · rfl
    · rw [advance_frame]

/-- What follows a pulse depends only on the sequencer and the idle level. -/
theorem advance_tx_congr {u : State} (h : u.tx = s.tx) (hp : u.params = s.params) :
    (advance u).tx = (advance s).tx := by
  have he (v : State) (e : Nat) : element v e =
      elementOf v.tx.txCode v.tx.txNbits.toNat (v.tx.txTe.setWidth 18) e := rfl
  simp only [advance, he, h]
  split
  · simp [pulse, he, h]
  · split
    · simp [pulse, he, h]
    · split
      · simp [pulse, he]
      · simp [complete, h, hp]

/-- The sequencer's part of a `TICK` depends only on the sequencer and the idle level. -/
theorem txTick_tx_congr {u : State} (h : u.tx = s.tx) (hp : u.params = s.params) :
    (txTick u).tx = (txTick s).tx := by
  simp only [txTick, h]
  split
  · exact h
  · split
    · rfl
    · exact advance_tx_congr _ (by simp) (by simpa using hp)

/-- What follows a pulse does not depend on the count of the pulse that ended. -/
theorem advance_rem (x : BitVec 18) :
    advance { s with tx := { s.tx with txRem := x } } = advance s := by
  have he (e : Nat) : element { s with tx := { s.tx with txRem := x } } e = element s e := rfl
  simp only [advance, he]
  split
  · rfl
  · split
    · rfl
    · split <;> rfl

/-- The sequencer's part of a `TICK` does one of three things. -/
theorem txTick_cases :
    (s.tx.txBusy = false ∧ txTick s = s) ∨
      (s.tx.txBusy = true ∧ s.tx.txRem ≠ 1 ∧
        txTick s = { s with tx := { s.tx with txRem := s.tx.txRem - 1 } }) ∨
      (s.tx.txBusy = true ∧ s.tx.txRem = 1 ∧ txTick s = advance s) := by
  cases hb : s.tx.txBusy
  · exact .inl ⟨rfl, by simp [txTick, hb]⟩
  · by_cases h : s.tx.txRem = 1
    · refine .inr (.inr ⟨rfl, h, ?_⟩)
      rw [← advance_rem s (s.tx.txRem - 1)]
      simp [txTick, hb, h]
    · have h0 : s.tx.txRem - 1 ≠ 0 := fun h0 => h (by bv_omega)
      exact .inr (.inl ⟨rfl, h, by simp only [txTick, hb, if_pos h0]; rfl⟩)

variable {s}

/-- After the first pulse of `START` or of a bit comes its second (R205). -/
theorem advance_first (hh : s.tx.txHalf = false) (he : s.tx.txElem.toNat ≤ s.tx.txNbits.toNat) :
    advance s = startPulse s.tx.txElem.toNat 1 s := by
  simp only [advance, element_length, hh, Bool.toNat_false]
  rw [if_pos (by rw [if_neg (by omega)]; omega)]

/-- After the second pulse of `START` or of a bit comes the next element (R206). -/
theorem advance_second (hh : s.tx.txHalf = true) (he : s.tx.txElem.toNat ≤ s.tx.txNbits.toNat) :
    advance s = startPulse (s.tx.txElem.toNat + 1) 0 s := by
  simp only [advance, element_length, hh, Bool.toNat_true]
  rw [if_neg (by rw [if_neg (by omega)]; omega), if_pos (by omega)]

/-- After `STOP`, with plays left, comes `START` (R207). -/
theorem advance_repeat (hh : s.tx.txHalf = false) (he : s.tx.txElem.toNat = s.tx.txNbits.toNat + 1)
    (hr : 1 < s.tx.txRep.toNat) :
    advance s = startPulse 0 0 { s with tx := { s.tx with txRep := s.tx.txRep - 1 } } := by
  have h : 1 < s.tx.txRep := hr
  simp only [advance, element_length, hh, Bool.toNat_false]
  rw [if_neg (by rw [if_pos he]; omega), if_neg (by omega), if_pos h]

/-- After the `STOP` of the last play the chain is complete (R208). -/
theorem advance_complete (hh : s.tx.txHalf = false) (he : s.tx.txElem.toNat = s.tx.txNbits.toNat + 1)
    (hr : s.tx.txRep.toNat ≤ 1) : advance s = complete s := by
  have h : ¬ 1 < s.tx.txRep := Nat.not_lt.2 hr
  simp only [advance, element_length, hh, Bool.toNat_false]
  rw [if_neg (by rw [if_pos he]; omega), if_neg (by omega), if_neg h]

/-- The pulses of `START` in the chain in flight. -/
theorem pulse_start (i : Nat) (hi : i ≤ 1) :
    pulse s 0 i = ⟨decide (i = 1), s.tx.txTe.setWidth 18⟩ := by
  unfold pulse element
  rw [elementOf_start]
  interval_cases i <;> rfl

/-- The pulses of a bit in the chain in flight: the complement of the bit, then the bit. -/
theorem pulse_bit {e : Nat} (i : Nat) (hi : i ≤ 1) (h0 : e ≠ 0) (h1 : e ≤ s.tx.txNbits.toNat) :
    pulse s e i =
      ⟨s.tx.txCode.getLsbD (s.tx.txNbits.toNat - e) == decide (i = 1), s.tx.txTe.setWidth 18⟩ := by
  unfold pulse element
  rw [elementOf_bit _ _ h0 (by omega)]
  interval_cases i <;> cases s.tx.txCode.getLsbD (s.tx.txNbits.toNat - e) <;> rfl

/-- The pulse of `STOP` in the chain in flight. -/
theorem pulse_stop : pulse s (s.tx.txNbits.toNat + 1) 0 = ⟨false, 4 * s.tx.txTe.setWidth 18⟩ := by
  unfold pulse element
  rw [elementOf_stop]
  rfl

variable (s)

@[simp] theorem txTick_ctl : (txTick s).ctl = s.ctl := by rw [txTick_frame]
@[simp] theorem txTick_timing : (txTick s).timing = s.timing := by rw [txTick_frame]
@[simp] theorem txTick_dec : (txTick s).dec = s.dec := by rw [txTick_frame]
@[simp] theorem txTick_wd : (txTick s).wd = s.wd := by rw [txTick_frame]
@[simp] theorem txTick_latch : (txTick s).latch = s.latch := by rw [txTick_frame]
@[simp] theorem txTick_err : (txTick s).err = s.err := by rw [txTick_frame]
@[simp] theorem txTick_out : (txTick s).out = s.out := by rw [txTick_frame]
@[simp] theorem txTick_events : (txTick s).events = s.events := by rw [txTick_frame]
@[simp] theorem txTick_params : (txTick s).params = s.params := by rw [txTick_frame]

end Sys2Proof.Machine
end

