-- ==== Sys2Proof/Laws/Step.lean ====
section
/-! SUPPORT. What a step can do, and what a register access can do, said once each. -/

namespace Sys2Proof.Machine

variable (s : State)

/-- A step waits, runs a decoded instruction, or records an illegal word. -/
theorem step_cases :
    (s.events = [] ∧ step s = .next (idleStep s)) ∨
      (∃ w rest i, s.events = w :: rest ∧ decode w = .ok i ∧
        step s = finish (exec i (beginStep rest s))) ∨
      (∃ w rest e, s.events = w :: rest ∧ decode w = .error e ∧
        step s = .next (illegalStep (beginStep rest s))) := by
  unfold step nextEvent
  cases hs : s.events with
  | nil => exact .inl ⟨rfl, rfl⟩
  | cons w rest =>
    cases hd : decode w with
    | ok i => exact .inr (.inl ⟨w, rest, i, rfl, hd, by simp [hd]⟩)
    | error e => exact .inr (.inr ⟨w, rest, e, rfl, hd, by simp [hd]⟩)

/-- The step of a word that decodes. -/
theorem step_of_decode {w : EventWord} {rest : List EventWord} {i : Instr}
    (h : s.events = w :: rest) (hd : decode w = .ok i) :
    step s = finish (exec i (beginStep rest s)) := by
  simp [step, nextEvent, h, hd]

/-- The step of a word that does not. -/
theorem step_of_illegal {w : EventWord} {rest : List EventWord} {e : IllegalWord}
    (h : s.events = w :: rest) (hd : decode w = .error e) :
    step s = .next (illegalStep (beginStep rest s)) := by
  simp [step, nextEvent, h, hd]

@[simp] theorem finish_next (t : State) : finish (.next t) = .next (endStep t) := rfl

/-- The instruction of a selector performs its action. -/
theorem exec_decodeSelector (sel : Selector) :
    exec (decodeSelector sel) s = .next (selectorAction sel s) := by
  unfold decodeSelector selectorAction
  cases sel.getLsbD 2 <;> cases sel.getLsbD 1 <;> cases sel.getLsbD 0 <;> rfl

/-- A `TICK`: the watchdog's part, and the sequencer's on its own fields (R72, R251). -/
theorem exec_tick : exec .tick s = .next { wdTick s with tx := (txTick s).tx } := by
  show Host.Outcome.next (txTick (wdTick s)) = _
  rw [txTick_frame (wdTick s), txTick_tx_congr s (by simp) (by simp)]

/-- An edge taken or ignored. -/
theorem exec_edge (dir : Level) (ts : Word) :
    exec (.edge dir ts) s = .next (if s.ctl.rxEn = true then takeEdge ts s else s) := by
  simp only [exec, execEdge]
  split <;> rfl

/-- What a `SEND` does: one of three rejections or the capture of its chain. -/
theorem exec_send_cases (code : Word) (bits : BitVec 6) (rep : Half) :
    (∃ c : BitVec 3, (c = 1 ∨ c = 2 ∨ c = 3) ∧ exec (.send code bits rep) s = .next (rejectSend c s)) ∨
      (s.ctl.txEn = true ∧ s.tx.txBusy = false ∧ 1 ≤ bits.toNat ∧ bits.toNat ≤ 32 ∧ rep ≠ 0 ∧
        s.timing.teUs ≠ 0 ∧ exec (.send code bits rep) s = .next (accept code bits rep s)) := by
  simp only [exec, execSend, flag]
  split
  · exact .inl ⟨3, by simp, rfl⟩
  · split
    · exact .inl ⟨2, by simp, rfl⟩
    · split
      · exact .inl ⟨1, by simp, rfl⟩
      · next h1 h2 h3 =>
        refine .inr ⟨by simpa using h1, by simpa using h2, ?_, ?_, ?_, ?_, rfl⟩
        · have h : ¬ bits < 1 := fun h => h3 (.inl h)
          exact Nat.le_of_not_lt h
        · have h : ¬ (32 : BitVec 6) < bits := fun h => h3 (.inr (.inl h))
          exact Nat.le_of_not_lt h
        · rintro rfl
          exact h3 (.inr (.inr (.inl (by decide))))
        · intro h
          exact h3 (.inr (.inr (.inr h)))

/-- A write changes the control register and the receiver, clears indications, stores a timing register,
or is ignored. -/
theorem writeReg_cases (a : Addr) (data : Word) :
    (a = 0x0 ∧ writeReg a data s = writeCtrl data s) ∨
      (a = 0x1 ∧ writeReg a data s = writeStatus data s) ∨
      (3 ≤ a.toNat ∧ a.toNat ≤ 9 ∧ ∃ g, writeReg a data s = { s with timing := g }) ∨
      writeReg a data s = s := by
  have hlt : a.toNat < 16 := a.isLt
  have ha : a = BitVec.ofNat 4 a.toNat := by simp
  unfold writeReg
  generalize a.toNat = n at *
  subst ha
  interval_cases n <;> first
    | exact .inl ⟨rfl, rfl⟩
    | exact .inr (.inl ⟨rfl, rfl⟩)
    | exact .inr (.inr (.inl ⟨by decide, by decide, _, rfl⟩))
    | exact .inr (.inr (.inr rfl))

/-- A write to `CTRL` enables the receiver, disables it, or leaves it as it is. -/
theorem writeCtrl_cases (data : Word) :
    let t : State :=
      { s with ctl := { rxEn := data.getLsbD 0, txEn := data.getLsbD 1, abortOnErr := data.getLsbD 2 } }
    (s.ctl.rxEn = false ∧ data.getLsbD 0 = true ∧ writeCtrl data s = armWatchdog t) ∨
      (s.ctl.rxEn = true ∧ data.getLsbD 0 = false ∧
        writeCtrl data s = disarmWatchdog (clearDecoder t)) ∨
      (data.getLsbD 0 = s.ctl.rxEn ∧ writeCtrl data s = t) := by
  simp only [writeCtrl]
  cases s.ctl.rxEn <;> cases h : data.getLsbD 0 <;> simp [rxEnableChange]

end Sys2Proof.Machine
end

