-- ==== Sys2Proof/Machine/TextForm.lean ====
section
/-! DEFINITION. Reading one line of the textual form of 30_encoding.md R96 as characters: the event's name,
a blank, and operands parted by commas, with blanks around them ignored (log entry 11). -/

namespace Sys2Proof.Machine

/-- A line or a part of one, as characters. -/
abbrev Text := List Char

/-- The value of a digit, of either case for a hexadecimal one. -/
def digitValue (c : Char) : Option Nat :=
  if '0' ≤ c ∧ c ≤ '9' then some (c.toNat - 48)
  else if 'A' ≤ c ∧ c ≤ 'F' then some (c.toNat - 55)
  else if 'a' ≤ c ∧ c ≤ 'f' then some (c.toNat - 87)
  else none

/-- The number whose digits in `base` follow those already read as `acc`. -/
def digits (base : Nat) : Nat → Text → Option Nat
  | acc, [] => some acc
  | acc, c :: cs =>
    match digitValue c with
    | none => none
    | some d => if d < base then digits base (acc * base + d) cs else none

/-- "Numbers are decimal or `0x` hexadecimal" (R96). -/
def parseNumber : Text → Option Nat
  | [] => none
  | ['0', 'x'] => none
  | '0' :: 'x' :: cs => digits 16 0 cs
  | cs => digits 10 0 cs

/-- The register names of 10_state.md R23. -/
def regNames : List (Text × RegName) :=
  [(['C', 'T', 'R', 'L'], .ctrl),
   (['S', 'T', 'A', 'T', 'U', 'S'], .status),
   (['R', 'X', '_', 'F', 'R', 'A', 'M', 'E'], .rxFrame),
   (['T', 'E', '_', 'U', 'S'], .teUs),
   (['S', 'H', 'O', 'R', 'T', '_', 'M', 'I', 'N'], .shortMin),
   (['S', 'H', 'O', 'R', 'T', '_', 'M', 'A', 'X'], .shortMax),
   (['L', 'O', 'N', 'G', '_', 'M', 'I', 'N'], .longMin),
   (['L', 'O', 'N', 'G', '_', 'M', 'A', 'X'], .longMax),
   (['S', 'I', 'L', 'E', 'N', 'C', 'E', '_', 'U', 'S'], .silenceUs),
   (['T', 'X', '_', 'G', 'A', 'P', '_', 'U', 'S'], .txGapUs)]

/-- A register operand: a name of R23 or a number (R96). -/
def parseReg (t : Text) : Option RegRef :=
  match regNames.lookup t with
  | some r => some (.name r)
  | none => (parseNumber t).map .number

/-- The parts of a text between the characters for which `p` holds. -/
def splitText (p : Char → Bool) : Text → List Text
  | [] => [[]]
  | c :: cs =>
    if p c then [] :: splitText p cs
    else
      match splitText p cs with
      | [] => [[c]]
      | w :: ws => (c :: w) :: ws

/-- The text without the blanks before it. -/
def dropBlanks : Text → Text
  | ' ' :: cs => dropBlanks cs
  | cs => cs

/-- The text without the blanks before and after it. -/
def trim (t : Text) : Text := (dropBlanks (dropBlanks t).reverse).reverse

/-- The text up to the first blank, and the text after it. -/
def firstWord : Text → Text × Text
  | [] => ([], [])
  | ' ' :: cs => ([], cs)
  | c :: cs => (c :: (firstWord cs).1, (firstWord cs).2)

/-- The operands of a line, parted by commas; a line of blanks has none. -/
def operands (t : Text) : List Text :=
  if trim t = [] then [] else (splitText (· == ',') t).map trim

/-- One line of the textual form (R96), none if it is none of its forms. -/
def parseLine (t : Text) : Option SourceLine :=
  match (firstWord (trim t)).1, operands (firstWord (trim t)).2 with
  | ['N', 'O', 'P'], [] => some .nop
  | ['T', 'I', 'C', 'K'], [] => some .tick
  | ['R', 'E', 'S', 'E', 'T'], [] => some .reset
  | ['E', 'D', 'G', 'E'], [['F'], ts] => (parseNumber ts).map (.edge false)
  | ['E', 'D', 'G', 'E'], [['R'], ts] => (parseNumber ts).map (.edge true)
  | ['S', 'E', 'N', 'D'], [code, bits, rep] =>
    (parseNumber code).bind fun c => (parseNumber bits).bind fun b => (parseNumber rep).map (.send c b)
  | ['W', 'R'], [reg, data] => (parseReg reg).bind fun r => (parseNumber data).map (.wr r)
  | ['R', 'D'], [reg] => (parseReg reg).map .rd
  | _, _ => none

/-- The event word of a line of text, none for an assembly error. -/
def assembleText (t : Text) : Option EventWord := ((parseLine t).bind assemble).bind encodeEvent

end Sys2Proof.Machine
end

