-- ==== Sys2Proof/Tests/Slice0.lean ====
section
/-! SUPPORT. The model's own tests: ill-formed terms refused, words of spec/ decoded, one step at a time with
the values of 95_test_vectors.md, and a witness for every statement that has hypotheses. -/

namespace Sys2Proof.Tests

open Sys2Proof Sys2Proof.Machine

/-! ## Small states -/

/-- The answer is a next state of which `p` holds. -/
def onNext (r : Host.Outcome State Fault Refusal) (p : State → Bool) : Bool :=
  match r with
  | .next t => p t
  | .fault _ => false
  | .refused _ => false

/-- One step that takes `w`. -/
def stepOn (w : EventWord) (s : State) : Host.Outcome State Fault Refusal := step { s with events := [w] }

/-- The state after a step. -/
def stepped (s : State) : State :=
  match step s with
  | .next t => t
  | .fault _ => s
  | .refused _ => s

/-- The receiver enabled at edge phase `ecnt`, the timer armed: the start states of 95 §2.2. -/
def rx (ecnt : BitVec 2) (prev : Bool) (high : Word) : State :=
  { State.reset with
    ctl := { rxEn := true, txEn := false, abortOnErr := false }
    dec := { rxEcnt := ecnt, rxPrev := prev, rxSr := 0, rxPendHigh := high, rxErr := false, rxPrevTs := 1000 }
    wd := { wdArmed := true, wdCnt := 1668 } }

/-- A frame of value `sr` that the next `TICK` ends. -/
def ending (cnt : Half) (sr : Word) (err abort : Bool) : State :=
  { State.reset with
    ctl := { rxEn := true, txEn := false, abortOnErr := abort }
    dec := { rxEcnt := 2, rxPrev := true, rxSr := sr, rxPendHigh := 417, rxErr := err, rxPrevTs := 7 }
    wd := { wdArmed := true, wdCnt := cnt } }

/-- The transmitter enabled, `TE_US` = `te`. -/
def txReady (te : Half) : State :=
  { State.reset with
    ctl := { rxEn := false, txEn := true, abortOnErr := false }
    timing := { State.reset.timing with teUs := te } }

/-- `SEND 5, 3, rep` with `TE` = 417 in flight, at a pulse of which `rem` `TICK`s are left. -/
def playing (elem : BitVec 6) (half : Bool) (line : Level) (rem : BitVec 18) (rep : Half) : State :=
  { txReady 417 with
    tx :=
      { txBusy := true, txLine := line, txCode := 5, txNbits := 3, txRep := rep, txTe := 417
        txElem := elem, txHalf := half, txRem := rem }
    out := { State.reset.out with txLine := line } }

/-! ## Well-formedness -/

theorem test_selectors_are_no_events :
    [Instr.dec0, .dec1, .dec2, .dec3, .dec4, .dec5, .dec6, .dec7].all
      (fun i => !i.wellFormed && decide (encodeEvent i = none)) = true := by decide

theorem test_events_are_events :
    [Instr.nop, .edge true 417, .tick, .send 5 3 1, .wr 8 3000, .rd 3, .reset].all Instr.wellFormed = true := by
  decide

theorem test_assembler_refuses_ts : assemble (.edge true (2 ^ 32)) = none := by decide
theorem test_assembler_refuses_code : assemble (.send (2 ^ 32) 1 1) = none := by decide
theorem test_assembler_refuses_bits : assemble (.send 1 64 1) = none := by decide
theorem test_assembler_refuses_repeat : assemble (.send 1 1 65536) = none := by decide
theorem test_assembler_refuses_write_address : assemble (.wr (.number 16) 0) = none := by decide
theorem test_assembler_refuses_data : assemble (.wr (.name .ctrl) (2 ^ 32)) = none := by decide
theorem test_assembler_refuses_read_address : assemble (.rd (.number 16)) = none := by decide

/-- `WR SILENCE_US, 3000` (95 §2.6). -/
theorem test_assembler_names :
    (assemble (.wr (.name .silenceUs) 3000)).bind encodeEvent = some 0x4000000800000BB8 := by decide

/-- The line `SEND 5, 3, 1` (95 §2.4). -/
theorem test_text_send :
    assembleText ['S', 'E', 'N', 'D', ' ', '5', ',', ' ', '3', ',', ' ', '1'] =
      some 0x3000004300000005 := by decide

/-- The line `EDGE R, 0x1A1` (95 §3.1, event 4). -/
theorem test_text_edge :
    assembleText ['E', 'D', 'G', 'E', ' ', 'R', ',', ' ', '0', 'x', '1', 'A', '1'] =
      some 0x10000001000001A1 := by decide

/-- The line `RD TE_US` (95 §1.8). -/
theorem test_text_read :
    assembleText ['R', 'D', ' ', 'T', 'E', '_', 'U', 'S'] = some 0x5000000300000000 := by decide

/-- `RD 16`: the address does not fit its field. -/
theorem test_text_refused : assembleText ['R', 'D', ' ', '1', '6'] = none := by decide

/-! ## Decoding: words written out from R80 to R88, and words of 95 -/

/-- `OP` 0001, 27 reserved zeros, `DIR` 1, `TS` = 417 = 0x1A1. -/
theorem test_decode_edge_bits :
    decode 0b0001000000000000000000000000000100000000000000000000000110100001 = .ok (.edge true 417) := by decide

/-- `OP` 0011, 6 reserved zeros, `REPEAT` = 2, `BITS` = 3, `CODE` = 5. -/
theorem test_decode_send_bits :
    decode 0b0011000000000000000000001000001100000000000000000000000000000101 = .ok (.send 5 3 2) := by decide

/-- `OP` 0100, 24 reserved zeros, `ADDR` = 8, `DATA` = 3000 = 0xBB8. -/
theorem test_decode_write_bits :
    decode 0b0100000000000000000000000000100000000000000000000000101110111000 = .ok (.wr 8 3000) := by decide

/-- `OP` 0101, 24 reserved zeros, `ADDR` = 3, 32 reserved zeros. -/
theorem test_decode_read_bits :
    decode 0b0101000000000000000000000000001100000000000000000000000000000000 = .ok (.rd 3) := by decide

/-- `OP` 0010, 0000 and 1111 with 60 reserved zeros. -/
theorem test_decode_bare_bits :
    decode 0b0010000000000000000000000000000000000000000000000000000000000000 = .ok .tick ∧
    decode 0b0000000000000000000000000000000000000000000000000000000000000000 = .ok .nop ∧
    decode 0b1111000000000000000000000000000000000000000000000000000000000000 = .ok .reset := by decide

/-- The legal words of 95 §2.6 that look unusual. -/
theorem test_decode_unusual :
    decode 0x1000000100000000 = .ok (.edge true 0) ∧
    decode 0x10000001FFFFFFFF = .ok (.edge true 0xFFFFFFFF) ∧
    decode 0x303FFFFFFFFFFFFF = .ok (.send 0xFFFFFFFF 63 0xFFFF) := by decide

/-- The illegal words of 95 §2.6. -/
theorem test_decode_illegal :
    decode 0x0000000000000001 = .error .reservedBits ∧ decode 0x1000000200000000 = .error .reservedBits ∧
    decode 0x2000000000000001 = .error .reservedBits ∧ decode 0x3040000000000000 = .error .reservedBits ∧
    decode 0x4000001000000000 = .error .reservedBits ∧ decode 0x5000000100000001 = .error .reservedBits ∧
    decode 0x6000000000000000 = .error .unassignedOp ∧ decode 0x8000000000000000 = .error .unassignedOp ∧
    decode 0xE000000000000000 = .error .unassignedOp ∧ decode 0xF000000000000001 = .error .reservedBits := by
  decide

/-- The rows of R92, as the opcode table gives them. -/
theorem test_decode_selectors :
    decodeTableWord 8 0b000 = some .dec0 ∧ decodeTableWord 8 0b001 = some .dec1 ∧
    decodeTableWord 8 0b010 = some .dec2 ∧ decodeTableWord 8 0b011 = some .dec3 ∧
    decodeTableWord 8 0b100 = some .dec4 ∧ decodeTableWord 8 0b101 = some .dec5 ∧
    decodeTableWord 8 0b110 = some .dec6 ∧ decodeTableWord 8 0b111 = some .dec7 := by decide

theorem test_decode_table_events :
    decodeTableWord 64 0x0 = some .nop ∧ decodeTableWord 64 0x1000000000000000 = some (.edge false 0) ∧
    decodeTableWord 64 0x2000000000000001 = none := by decide

/-! ## One step each -/

/-- 95 §2.6: no change. -/
theorem test_nop : onNext (stepOn 0 State.reset) (fun t => t == State.reset) = true := by decide

/-- 95 §1.8: `RD TE_US` after reset. -/
theorem test_read_te_us :
    onNext (stepOn 0x5000000300000000 State.reset) (fun t => t.out.rdataValid && t.out.rdata == 0x1A1) = true := by
  decide

/-- 95 §3.1, events 23 and 24: the read gives the frame and clears `RX_PEND`. -/
theorem test_read_frame_clears_pend :
    onNext
      (stepOn 0x5000000200000000
        { State.reset with latch := { rxFrame := 0xF, rxFrameErr := false, rxPend := true, rxOvr := false } })
      (fun t => t.out.rdata == 0xF && readReg t 1 == 0x100) = true := by decide

/-- 95 §2.6: bits 31:16 are dropped. -/
theorem test_write_te_us :
    onNext (stepOn 0x4000000300012345 State.reset) (fun t => readReg t 3 == 0x2345) = true := by decide

/-- 95 §2.6: bits 31:3 are ignored. -/
theorem test_write_ctrl :
    onNext (stepOn 0x40000000FFFFFFFA State.reset) (fun t => readReg t 0 == 2) = true := by decide

/-- 95 §2.6: `RESET`, then `STATUS` = 0x100. -/
theorem test_reset_mid_chain :
    onNext (stepOn 0xF000000000000000 (playing 2 true false 5 1)) (fun t => readReg t 1 == 0x100) = true := by
  decide

/-- 95 §2.6: an illegal `TICK` does not advance the time. -/
theorem test_illegal_word :
    onNext (stepOn 0x2000000000000001 (playing 0 false false 5 1))
      (fun t => t.err.evIll && t.tx.txRem == 5) = true := by decide

/-- 95 §2.2 "timestamp wrap". -/
theorem test_edge_timestamp_wrap :
    onNext
      (stepOn 0x10000000000000A1
        { rx 2 true 0 with dec := { (rx 2 true 0).dec with rxPrevTs := 0xFFFFFF00 } })
      (fun t => t.dec.rxPendHigh == 417 && t.dec.rxEcnt == 3) = true := by decide

/-- 95 §2.2 "first edge clears". -/
theorem test_edge_first_clears :
    onNext
      (stepOn 0x1000000000000007
        { rx 0 false 0 with dec := { (rx 0 false 0).dec with rxSr := 5, rxErr := true } })
      (fun t => t.dec == { emptyDecoder 7 with rxEcnt := 1 } && t.wd == { wdArmed := true, wdCnt := 1668 }) =
      true := by decide

/-- A row of 95 §2.2: `EDGE R, 1000 + l` after a high duration `h`. -/
def row (p : Bool) (h l : Word) (sr : Word) (prev err : Bool) : Bool :=
  onNext (stepOn (edgeWord true (1000 + l)) (rx 3 p h))
    (fun t => t.dec.rxSr == sr && t.dec.rxPrev == prev && t.dec.rxErr == err && t.dec.rxEcnt == 2)

theorem test_row_dec0 : row false 417 417 0 false false = true := by decide
theorem test_row_dec1 : row false 834 417 0 false true = true := by decide
theorem test_row_dec2 : row false 417 834 1 true false = true := by decide
theorem test_row_dec3 : row false 834 834 0 false true = true := by decide
theorem test_row_dec4 : row true 417 417 1 true false = true := by decide
theorem test_row_dec5 : row true 834 417 0 false false = true := by decide
theorem test_row_dec6 : row true 417 834 0 true true = true := by decide
theorem test_row_dec7 : row true 834 834 1 true false = true := by decide

/-- 95 §2.2, an `Invalid` duration: the bit is emitted all the same and `RX_ERR` is set. -/
theorem test_row_invalid : row true 417 1000 1 true true = true ∧ row false 200 834 1 true true = true := by
  decide

/-- 95 §2.1, the boundaries of the reset windows. -/
theorem test_classifier_boundaries :
    [0, 349, 350, 489, 490, 760, 761, 899, 900, 0xFFFFFFFF].map (classify State.reset) =
      [.invalid, .invalid, .short, .short, .invalid, .invalid, .long, .long, .invalid, .invalid] := by decide

/-- The `EDGE` of a staged selector row runs that row. -/
theorem test_staged_dec7 :
    onNext (step (State.reset.withFetchWord 8 7)) (fun t => t.dec.rxSr == 1 && t.dec.rxPrev) = true := by decide

theorem test_staged_event :
    onNext (step (State.reset.withFetchWord 64 0x4000000000000002)) (fun t => t.ctl.txEn) = true := by decide

/-- 95 §3.1, event 21: the last `TICK` delivers the frame. -/
theorem test_tick_delivers :
    onNext (stepOn 0x2000000000000000 (ending 1 0xF false false))
      (fun t => t.out.frameValid && t.out.frameValue == 0xF && readReg t 1 == 0x104) = true := by decide

/-- 95 §3.2: at `T` = 5004 the chain is complete and the line goes high. -/
theorem test_tick_completes :
    onNext (stepOn 0x2000000000000000 (playing 4 false false 1 1))
      (fun t => t.out.txLine && readReg t 1 == 0x100) = true := by decide

/-- 95 §2.4 "accept". -/
theorem test_send_accept :
    onNext (stepOn 0x3000004300000005 (txReady 417))
      (fun t => t.tx == (playing 0 false false 417 1).tx && readReg t 1 == 1) = true := by decide

/-- 95 §2.4 "busy" and "bits 33". -/
theorem test_send_rejects :
    onNext (stepOn 0x3000008100000001 (playing 0 false false 317 2)) (fun t => readReg t 1 == 0x403) = true ∧
    onNext (stepOn 0x3000006100000001 (txReady 417)) (fun t => readReg t 1 == 0x302) = true := by decide

/-- The first words of P1 (95 §3.1), events 3 to 5: `MANCH 0x0F, 8, 0`. -/
theorem test_manch_begins :
    (manch 0x0F 8 2 0).take 7 =
      [edgeWord false 0, tickWord, tickWord, edgeWord true 2, tickWord, tickWord, tickWord] := by decide

/-! ## Witnesses: states and operands that meet the hypotheses of the statements -/

/-- `DecoderIsTheSpecs`: a word for each of the eight lines, with fields at the top of their ranges. -/
theorem witness_decoder_lines :
    (bitsNat 0 63 60 = 0x0 ∧ bitsNat 0 59 0 = 0) ∧
    (bitsNat 0x10000001FFFFFFFF 63 60 = 0x1 ∧ bitsNat 0x10000001FFFFFFFF 59 33 = 0) ∧
    (bitsNat 0x2000000000000000 63 60 = 0x2 ∧ bitsNat 0x2000000000000000 59 0 = 0) ∧
    (bitsNat 0x303FFFFFFFFFFFFF 63 60 = 0x3 ∧ bitsNat 0x303FFFFFFFFFFFFF 59 54 = 0) ∧
    (bitsNat 0x4000000FFFFFFFFF 63 60 = 0x4 ∧ bitsNat 0x4000000FFFFFFFFF 59 36 = 0) ∧
    (bitsNat 0x5000000F00000000 63 60 = 0x5 ∧ bitsNat 0x5000000F00000000 59 36 = 0 ∧
      bitsNat 0x5000000F00000000 31 0 = 0) ∧
    (bitsNat 0xF000000000000000 63 60 = 0xF ∧ bitsNat 0xF000000000000000 59 0 = 0) := by decide

theorem witness_decoder_illegal :
    bitsNat 0x6000000000000000 63 60 = 0x6 ∧ bitsNat 0xF000000000000001 59 0 = 1 := by decide

/-- `DecodeOfEncode`, both sides. -/
theorem witness_wellFormed : Instr.nop.wellFormed = true ∧ Instr.dec0.wellFormed = false := by decide

/-- `EncodeOfDecode`. -/
theorem witness_decodes : decode 0x303FFFFFFFFFFFFF = .ok (.send 0xFFFFFFFF 63 0xFFFF) := by decide

/-- `AssemblerWords`: the largest operands, by name and by number. -/
theorem witness_operands_fit :
    (0xFFFFFFFF < 2 ^ 32 ∧ 63 < 2 ^ 6 ∧ 65535 < 2 ^ 16) ∧
    (RegRef.number 15).addr < 16 ∧ (RegRef.name .txGapUs).addr = 9 := by decide

/-- `StepRunsTheDecodedInstruction`, `IllegalWordOnlySetsEvIll`, `NoEventChangesNothing`. -/
theorem witness_step_kinds :
    (({ State.reset with events := [tickWord, 1] }).events = tickWord :: [1] ∧ decode tickWord = .ok .tick) ∧
    decode 1 = .error .reservedBits ∧ State.reset.events = [] := by decide

/-- `OutputsOfEveryStep`: a step of each kind the statement speaks of. -/
theorem witness_outputs :
    (stepped { ending 1 0xF false false with events := [tickWord] }).out.frameValid = true ∧
    (stepped { ending 2 0xF false false with events := [tickWord] }).out.frameValid = false ∧
    (stepped { State.reset with events := [readWord 15] }).out.rdataValid = true ∧
    (stepped { State.reset with events := [tickWord] }).out.rdataValid = false := by decide

/-- `RegisterReadValues`, `ReservedAddressesReadZeroIgnoreWrites`, `WriteTimingStores`, `RegistersAfterReset`:
addresses at the ends of each range. -/
theorem witness_addresses :
    (0x0 : Addr).toNat = 0x0 ∧ (0x2 : Addr).toNat = 0x2 ∧ (0x9 : Addr).toNat = 0x9 ∧
    (0xA ≤ (0xA : Addr).toNat ∧ 0xA ≤ (0xF : Addr).toNat) ∧
    (3 ≤ (3 : Addr).toNat ∧ (3 : Addr).toNat ≤ 9) ∧ (3 ≤ (9 : Addr).toNat ∧ (9 : Addr).toNat ≤ 9) := by decide

/-- `WriteTimingStores`: the registers other than the one written, at both ends. -/
theorem witness_other_register : (0x2 : Addr) ≠ 0x3 ∧ (0xA : Addr) ≠ 0x9 := by decide

/-- `NopChangesNothing` and `ResetFromAnyState`: their words presented, in mid-frame and in mid-chain. -/
theorem witness_presented :
    ({ rx 3 true 417 with events := [0x0000000000000000, 1] }).events = 0x0000000000000000 :: [1] ∧
    ({ playing 2 true true 9 2 with events := [0xF000000000000000] }).events = 0xF000000000000000 :: [] := by
  decide

/-- Windows as 95 §2.1 changes them. -/
def windows (a b c d : Half) : State :=
  { State.reset with
    timing := { State.reset.timing with shortMin := a, shortMax := b, longMin := c, longMax := d } }

/-- `ClassifierCorners`: overlap, empty Short, empty Long, and the first duration above the bounds' width. -/
theorem witness_classifier :
    (classify (windows 350 900 400 1000) 500 = .short ∧ classify (windows 350 900 400 1000) 950 = .long) ∧
    classify (windows 417 417 760 900) 417 = .invalid ∧ classify (windows 350 490 800 801) 800 = .invalid ∧
    classify (windows 0 0xFFFF 0 0xFFFF) 65536 = .invalid := by decide

/-- `EdgeIgnoredWhileDisabled`. -/
theorem witness_receiver_off : State.reset.ctl.rxEn = false := by decide

/-- `StartEdges`, `FallingEdgeRecordsHigh`, `RisingEdgeRunsTheSelector`: the four phases. -/
theorem witness_phases :
    (rx 0 false 0).ctl.rxEn = true ∧ (rx 0 false 0).dec.rxEcnt.toNat = 0 ∧ (rx 1 false 0).dec.rxEcnt.toNat = 1 ∧
    (rx 2 true 0).dec.rxEcnt.toNat = 2 ∧ (rx 3 true 417).dec.rxEcnt.toNat = 3 := by decide

/-- `TickCountsTheSilence`: not armed, and armed with 2. -/
theorem witness_not_expiring : ¬ expiresNext State.reset ∧ ¬ expiresNext (ending 2 0 false false) := by decide

/-- `ExpiryDelivers`: a count of 1 and of 0, and an error under continue-on-error. -/
theorem witness_expiring :
    (expiresNext (ending 1 0xF false false) ∧ ¬ discards (ending 1 0xF false false)) ∧
    (expiresNext (ending 0 0 true false) ∧ ¬ discards (ending 0 0 true false)) := by decide

/-- `AbortDiscardsTheFrame`. -/
theorem witness_discarding : expiresNext (ending 1 0xF true true) ∧ discards (ending 1 0xF true true) := by decide

/-- `SilenceDeliversExactlyOneFrame`, for 1 and for 2 `TICK`s. -/
theorem witness_silence :
    ((ending 1 0xF false false).wd.wdArmed = true ∧ (ending 1 0xF false false).wd.wdCnt.toNat = 1 ∧
      ¬ discards (ending 1 0xF false false)) ∧
    ((ending 2 0xF false false).wd.wdArmed = true ∧ (ending 2 0xF false false).wd.wdCnt.toNat = 2 ∧
      ¬ discards (ending 2 0xF false false)) ∧
    ({ ending 2 0xF false false with events := ticks 2 ++ [0] }).events = ticks 2 ++ [0] := by decide

/-- `EdgeAndExpiringTickInEitherOrder`, at the least `SILENCE_US` it allows. -/
theorem witness_edge_and_tick :
    let s := { ending 1 0xF false false with timing := { State.reset.timing with silenceUs := 2 } }
    s.ctl.rxEn = true ∧ expiresNext s ∧ ¬ discards s ∧ 2 ≤ s.timing.silenceUs.toNat := by decide

/-- `SendRejectsOrAccepts`: each rejection, and an acceptance at both ends of the bit count. -/
theorem witness_send :
    State.reset.ctl.txEn = false ∧
    ((playing 0 false false 417 1).ctl.txEn = true ∧ (playing 0 false false 417 1).tx.txBusy = true) ∧
    ((txReady 417).ctl.txEn = true ∧ (txReady 417).tx.txBusy = false ∧ (txReady 417).timing.teUs.toNat ≠ 0) ∧
    (0#6).toNat < 1 ∧ 32 < (33#6).toNat ∧ (0#16).toNat < 1 ∧ (txReady 0).timing.teUs.toNat = 0 ∧
    (1 ≤ (1#6).toNat ∧ (32#6).toNat ≤ 32 ∧ 1 ≤ (1#16).toNat) := by decide

/-- `TickCountsThePulse`. -/
theorem witness_pulse_counts :
    State.reset.tx.txBusy = false ∧ (playing 4 false false 1668 1).tx.txBusy = true ∧
    (playing 4 false false 1668 1).tx.txRem ≠ 1 ∧ (playing 4 false false 0 1).tx.txRem ≠ 1 := by decide

/-- `PulseEndsInsideTheChain`: in `START`, in the last bit's first pulse, before a bit, before `STOP`. -/
theorem witness_pulse_ends :
    ((playing 0 false false 1 1).tx.txHalf = false ∧ (playing 0 false false 1 1).tx.txElem.toNat ≤ 3) ∧
    ((playing 3 false false 1 1).tx.txHalf = false ∧ (playing 3 false false 1 1).tx.txElem.toNat ≤ 3) ∧
    ((playing 2 true false 1 1).tx.txHalf = true ∧ (playing 2 true false 1 1).tx.txElem.toNat < 3) ∧
    ((playing 3 true true 1 1).tx.txHalf = true ∧ (playing 3 true true 1 1).tx.txElem.toNat = 3) ∧
    (playing 3 true true 1 1).tx.txNbits.toNat = 3 ∧ (playing 3 true true 1 1).tx.txRem = 1 := by decide

/-- `StopEndsThePlay`: with 2 plays left and with 1. -/
theorem witness_stop :
    ((playing 4 false false 1 2).tx.txElem.toNat = 3 + 1 ∧ (playing 4 false false 1 2).tx.txHalf = false ∧
      1 < (playing 4 false false 1 2).tx.txRep.toNat) ∧
    (playing 4 false false 1 1).tx.txRep.toNat ≤ 1 := by decide

/-- `ChainPlaysItsPulses`: one bit, two plays, `TE` = 1, in the last `TICK` and at the end. -/
theorem witness_chain :
    let s := { txReady 1 with events := sendWord 1 1 2 :: (ticks 16 ++ [0]) }
    s.ctl.txEn = true ∧ s.tx.txBusy = false ∧ s.timing.teUs.toNat ≠ 0 ∧
    s.events = sendWord 1 1 2 :: (ticks 15 ++ ([tickWord, 0])) ∧ 15 < 2 * ((2 * 1 + 6) * 1) ∧
    16 = 2 * ((2 * 1 + 6) * s.timing.teUs.toNat) := by decide

/-- `UnsentCodeBitsHaveNoEffect`: codes 0xFFFFFFF5 and 5 in 3 bits (95 §2.4). -/
theorem witness_sent_code :
    let s := playing 2 true false 5 1
    let s' := { s with tx := { s.tx with txCode := 0xFFFFFFF5 } }
    SequencerInv s ∧ s' = { s with tx := { s.tx with txCode := s'.tx.txCode } } ∧
      ∀ i, i < 3 → s'.tx.txCode.getLsbD i = s.tx.txCode.getLsbD i := by decide

/-- `GapHasNoEffect`: the next word reads another register. -/
theorem witness_gap : ∀ w rest,
    ({ State.reset with events := [readWord 8] }).events = w :: rest → decode w ≠ .ok (.rd 9) := by
  intro w rest h
  injection h with hw _
  subst hw
  decide

/-- `FramesOfEvents`, `FramesOfSelectors`: each instruction answers a next state. -/
theorem witness_frames :
    [Instr.edge false 1001, .send 1 1 1, .rd 2, .wr 0 0, .tick, .dec0, .dec1, .dec2, .dec3, .dec4, .dec5, .dec6,
      .dec7].all (fun i => onNext (exec i (rx 3 true 417)) (fun _ => true)) = true := by decide

/-- `ChainInFlightIsImmutable`: a `TICK` that begins the second play. -/
theorem witness_in_flight :
    Instr.tick ≠ .reset ∧ (playing 4 false false 1 2).tx.txBusy = true ∧
    onNext (exec .tick (playing 4 false false 1 2)) (fun t => t.tx.txRep == 1) = true := by decide

/-- `ConfigurationChangesOnlyByTheHost`: a write that changes a timing register, one that changes `CTRL`. -/
theorem witness_configuration :
    onNext (exec (.wr 3 100) State.reset) (fun t => t.timing != State.reset.timing) = true ∧
    onNext (exec (.wr 0 7) State.reset) (fun t => t.ctl != State.reset.ctl) = true := by decide

/-- Every sticky indication set. -/
def sticky : State :=
  { State.reset with
    latch := { rxFrame := 0, rxFrameErr := false, rxPend := true, rxOvr := true }
    err := { txErr := true, txCause := 3, evIll := true } }

/-- `StickyIndicationsStay`: a write that clears all three, and a `SEND` that changes the cause. -/
theorem witness_sticky :
    onNext (exec (.wr 1 0xFFFFFFFF) sticky) (fun t => t.err == ⟨false, 0, false⟩ && !t.latch.rxOvr) = true ∧
    onNext (exec (.send 1 0 1) { sticky with ctl := ⟨false, true, false⟩ })
      (fun t => t.err.txErr && t.err.txCause == 1) = true := by decide

/-- `LatchChangesOnlyAsSaid`: each of the four ways. -/
theorem witness_latch :
    onNext (exec .tick (ending 1 9 false false)) (fun t => t.latch != State.reset.latch) = true ∧
    onNext (exec (.rd 2) sticky) (fun t => t.latch != sticky.latch) = true ∧
    onNext (exec (.wr 1 8) sticky) (fun t => t.latch != sticky.latch) = true ∧
    onNext (exec .reset sticky) (fun t => t.latch != sticky.latch) = true := by decide

/-- `FrameErrorFlagClearedOnlyWithTheDecoder`: each of the four ways. -/
theorem witness_error_flag :
    onNext (exec .tick (ending 1 9 true false)) (fun t => !t.dec.rxErr) = true ∧
    onNext (exec (.wr 0 0) (ending 1 9 true false)) (fun t => !t.dec.rxErr) = true ∧
    onNext (exec .reset (ending 1 9 true false)) (fun t => !t.dec.rxErr) = true ∧
    onNext (exec (.edge false 9) { rx 0 false 0 with dec := { (rx 0 false 0).dec with rxErr := true } })
      (fun t => !t.dec.rxErr) = true := by decide

/-- `StepKeepsInv`: a chain in flight and a frame being assembled, and the step it takes. -/
theorem witness_inv :
    let s := { playing 4 false false 1 2 with
      ctl := ⟨true, true, false⟩, dec := (rx 3 true 417).dec, wd := ⟨true, 5⟩, events := [tickWord] }
    Inv s ∧ onNext (step s) (fun t => t.tx.txElem == 0 && t.dec.rxEcnt == 3) = true := by decide

end Sys2Proof.Tests
end

section
/-! PROOFS. What every step gives as outputs (O10), and the invariant every step keeps (O54). -/

namespace Sys2Proof.Machine

open Host.Outcome (next)

variable {s t : State}

/-! ## The outputs of a step -/

/-- A write to `CTRL` changes only the control register and the receiver (R245). -/
theorem writeCtrl_frame (data : Word) (s : State) :
    writeCtrl data s =
      { s with
        ctl := (writeCtrl data s).ctl, dec := (writeCtrl data s).dec, wd := (writeCtrl data s).wd } := by
  obtain ⟨-, -, hw⟩ | ⟨-, -, hw⟩ | ⟨-, hw⟩ := writeCtrl_cases s data <;> rw [hw] <;> rfl

@[simp] theorem writeReg_out (a : Addr) (data : Word) (s : State) : (writeReg a data s).out = s.out := by
  obtain ⟨-, h⟩ | ⟨-, h⟩ | ⟨-, -, g, h⟩ | h := writeReg_cases s a data
  · rw [h, writeCtrl_frame]
  · rw [h, writeStatus]
  · rw [h]
  · rw [h]

@[simp] theorem readEffect_out (a : Addr) (s : State) : (readEffect a s).out = s.out := by
  unfold readEffect
  split <;> rfl

@[simp] theorem takeEdge_out (ts : Word) (s : State) : (takeEdge ts s).out = s.out := by
  rw [takeEdge_frame]

theorem expire_out_of_discards (h : discards s) : (expire s).out = s.out := by
  rw [expire_eq, if_pos h]
  rfl

theorem expire_out_of_not_discards (h : ¬ discards s) :
    (expire s).out =
      { s.out with frameValid := true, frameValue := s.dec.rxSr, frameErr := s.dec.rxErr } := by
  rw [expire_eq, if_neg h, deliver_eq]
  rfl

/-- The watchdog's part of a `TICK` delivers the frame exactly when it expires and does not discard. -/
theorem wdTick_out :
    (wdTick s).out =
      if expiresNext s ∧ ¬ discards s then
        { s.out with frameValid := true, frameValue := s.dec.rxSr, frameErr := s.dec.rxErr }
      else s.out := by
  obtain ⟨ha, h⟩ | ⟨ha, hc, h⟩ | ⟨-, hc, h⟩ := wdTick_cases s
  · rw [h, if_neg (fun hx => by simp [expiresNext, ha] at hx)]
  · by_cases hd : discards s
    · rw [h, if_neg (fun hx => hx.2 hd), expire_out_of_discards hd]
    · rw [h, if_pos ⟨⟨ha, hc⟩, hd⟩, expire_out_of_not_discards hd]
  · rw [h, if_neg (fun hx => by have := hx.1.2; omega)]

/-- No instruction but a `READ` and a delivering `TICK` writes an output. -/
theorem exec_out_cases {i : Instr} (h : exec i s = next t) :
    (∃ a, i = .rd a ∧ t.out = { s.out with rdataValid := true, rdata := readReg s a }) ∨
      (i = .tick ∧ (expiresNext s ∧ ¬ discards s) ∧
        t.out = { s.out with frameValid := true, frameValue := s.dec.rxSr, frameErr := s.dec.rxErr }) ∨
      ((∀ a, i ≠ .rd a) ∧ ¬ (i = .tick ∧ expiresNext s ∧ ¬ discards s) ∧ t.out = s.out) := by
  cases i with
  | rd a =>
    cases h
    exact .inl ⟨a, rfl, by simp⟩
  | tick =>
    rw [exec_tick] at h
    cases h
    by_cases hx : expiresNext s ∧ ¬ discards s
    · exact .inr (.inl ⟨rfl, hx, by simp only [wdTick_out, if_pos hx]⟩)
    · exact .inr (.inr ⟨nofun, fun hi => hx hi.2, by simp only [wdTick_out, if_neg hx]⟩)
  | edge dir ts =>
    rw [exec_edge] at h
    cases h
    refine .inr (.inr ⟨nofun, nofun, ?_⟩)
    split
    · exact takeEdge_out ts s
    · rfl
  | send code bits rep =>
    refine .inr (.inr ⟨nofun, nofun, ?_⟩)
    obtain ⟨c, -, hs⟩ | ⟨-, -, -, -, -, -, hs⟩ := exec_send_cases s code bits rep <;>
      · rw [hs] at h
        cases h
        rfl
  | wr a data =>
    cases h
    exact .inr (.inr ⟨nofun, nofun, writeReg_out a data s⟩)
  | nop | reset | dec0 | dec1 | dec2 | dec3 | dec4 | dec5 | dec6 | dec7 =>
    cases h
    exact .inr (.inr ⟨nofun, nofun, rfl⟩)

/-- A step's instruction answers the state that ends the step. -/
theorem finish_eq_next {r : Host.Outcome State Fault Refusal} (h : finish r = next t) :
    ∃ u, r = next u ∧ t = endStep u := by
  cases r with
  | next u =>
    cases h
    exact ⟨u, rfl, rfl⟩
  | fault f => cases h
  | refused r => cases h

/-- Settles O10, by the three things a step can do and the three things an instruction can do to the
outputs. -/
theorem outputsOfEveryStep : Obligations.OutputsOfEveryStep := by
  intro s t h
  obtain ⟨he, hs⟩ | ⟨w, rest, i, he, hd, hs⟩ | ⟨w, rest, e, he, hd, hs⟩ := step_cases s
  · cases hs.symm.trans h
    simp [idleStep, noOutputs, he]
  · obtain ⟨u, hu, rfl⟩ := finish_eq_next (hs.symm.trans h)
    obtain ⟨a, rfl, ho⟩ | ⟨rfl, (hv : expiresNext s ∧ ¬ discards s), ho⟩ |
      ⟨hr, (hv : ¬ (i = .tick ∧ expiresNext s ∧ ¬ discards s)), ho⟩ := exec_out_cases hu
    · simp [ho, noOutputs, he, hd]
    · simpa [ho, noOutputs, he, hd, -not_and] using hv
    · simp [ho, noOutputs, he, hd, hr, -not_and, hv]
  · cases hs.symm.trans h
    simp [illegalStep, flag, noOutputs, he, hd]

/-! ## The words a host presents -/

theorem ifReservedZero_eq_ok {n : Nat} {r : BitVec n} {i j : Instr} (h : ifReservedZero r i = .ok j) :
    i = j := by
  unfold ifReservedZero at h
  split at h <;> cases h
  rfl

/-- No event word stands for a selector action (R93). -/
theorem decode_wellFormed {w : EventWord} {i : Instr} (h : decode w = .ok i) : i.wellFormed = true := by
  unfold decode at h
  split at h
  case h_8 => cases h
  all_goals
    cases ifReservedZero_eq_ok h
    rfl

/-! ## The receive half -/

/-- The receiver's part of the invariant. -/
def ReceiverInv (s : State) : Prop := DecoderInv s ∧ WatchdogInv s

/-- The receiver's part reads the decoder, the watchdog and `RX_EN` alone. -/
theorem receiverInv_congr (h : ReceiverInv s) (hd : t.dec = s.dec) (hw : t.wd = s.wd)
    (hc : t.ctl.rxEn = s.ctl.rxEn) : ReceiverInv t := by
  simpa only [ReceiverInv, DecoderInv, WatchdogInv, hd, hw, hc] using h

/-- With the timer disarmed and the decoder empty nothing is left to hold. -/
theorem receiverInv_of_empty {ts : Word} (hd : t.dec = emptyDecoder ts) (hw : t.wd = ⟨false, 0⟩) :
    ReceiverInv t := by
  simp [ReceiverInv, WatchdogInv, hd, hw, emptyDecoder]

/-- The first phase empties the decoder; every other one leaves it past the first edge. -/
theorem decoderInv_edgePhase (el : Word) (s : State) : DecoderInv (edgePhase el s) := by
  unfold edgePhase
  split <;> simp

theorem receiverInv_takeEdge (ts : Word) (he : s.ctl.rxEn = true) : ReceiverInv (takeEdge ts s) := by
  refine ⟨decoderInv_edgePhase _ _, ?_⟩
  rw [takeEdge_frame]
  simp [WatchdogInv, he]

theorem expire_dec (s : State) : (expire s).dec = emptyDecoder s.dec.rxPrevTs := by
  rw [expire_eq, deliver_eq]
  split <;> rfl

theorem expire_wd (s : State) : (expire s).wd = ⟨false, 0⟩ := by
  rw [expire_eq, deliver_eq]
  split <;> rfl

theorem receiverInv_wdTick (h : ReceiverInv s) : ReceiverInv (wdTick s) := by
  obtain ⟨-, hw⟩ | ⟨-, -, hw⟩ | ⟨ha, -, hw⟩ := wdTick_cases s
  · rwa [hw]
  · rw [hw]
    exact receiverInv_of_empty (expire_dec s) (expire_wd s)
  · obtain ⟨hd, he, -⟩ := h
    rw [hw]
    exact ⟨hd, he, fun hn => absurd (ha.symm.trans hn) (by decide)⟩

theorem receiverInv_writeCtrl (data : Word) (h : ReceiverInv s) : ReceiverInv (writeCtrl data s) := by
  obtain ⟨-, hn, hw⟩ | ⟨-, -, hw⟩ | ⟨hn, hw⟩ := writeCtrl_cases s data
  · rw [hw]
    exact ⟨h.1, by simp [WatchdogInv, -BitVec.getLsbD_eq_getElem, hn]⟩
  · rw [hw]
    exact receiverInv_of_empty rfl rfl
  · rw [hw]
    exact receiverInv_congr h rfl rfl hn

/-! ## The transmit half -/

/-- A pulse of the chain in flight depends on the sequencer alone. -/
theorem pulse_congr (ht : t.tx = s.tx) : pulse t = pulse s := by
  unfold pulse element
  rw [ht]

/-- The sequencer's part reads the sequencer and the idle level alone. -/
theorem sequencerInv_congr (h : SequencerInv s) (ht : t.tx = s.tx) (hp : t.params = s.params) :
    SequencerInv t := by
  simpa only [SequencerInv, BusyInv, IdleInv, pulse_congr ht, ht, hp] using h

/-- A chain in flight that a `SEND` could have captured, whatever pulse it plays (R201, R202). -/
def PlayableChain (s : State) : Prop :=
  s.tx.txBusy = true ∧ 1 ≤ s.tx.txNbits.toNat ∧ s.tx.txNbits.toNat ≤ 32 ∧ s.tx.txTe ≠ 0 ∧ s.tx.txRep ≠ 0

/-- The chain has a pulse `i` in its element `e` (R203): `STOP` has one pulse, every other element two. -/
def HasPulse (s : State) (e i : Nat) : Prop :=
  i ≤ 1 ∧ e ≤ s.tx.txNbits.toNat + 1 ∧ (e = s.tx.txNbits.toNat + 1 → i = 0)

/-- A pulse lasts `TE` or, in `STOP`, `4·TE` (R200). -/
theorem pulse_dur {e i : Nat} (h : HasPulse s e i) :
    (pulse s e i).dur =
      if e = s.tx.txNbits.toNat + 1 then 4 * s.tx.txTe.setWidth 18 else s.tx.txTe.setWidth 18 := by
  obtain ⟨hi, he, hstop⟩ := h
  by_cases h1 : e = s.tx.txNbits.toNat + 1
  · rw [if_pos h1, hstop h1, h1, pulse_stop]
  · rw [if_neg h1]
    by_cases h0 : e = 0
    · rw [h0, pulse_start i hi]
    · rw [pulse_bit i hi h0 (by omega)]

/-- `4·TE` fits the 18 bits of `TX_REM`, so no pulse has a duration of 0. -/
theorem pulse_dur_ne_zero {e i : Nat} (h : HasPulse s e i) (ht : s.tx.txTe ≠ 0) :
    (pulse s e i).dur ≠ 0 := by
  rw [pulse_dur h]
  split <;> bv_omega

/-- A playable chain that begins a pulse it has meets the invariant. -/
theorem sequencerInv_startPulse {e i : Nat} (hc : PlayableChain s) (hp : HasPulse s e i) :
    SequencerInv (startPulse e i s) := by
  obtain ⟨hb, h1, h32, ht, hr⟩ := hc
  have hdur := pulse_dur_ne_zero hp ht
  obtain ⟨hi, he, hstop⟩ := hp
  have hpos : (BitVec.ofNat 6 e).toNat = e := by simp; omega
  have hhalf : (decide (i ≠ 0)).toNat = i := by interval_cases i <;> rfl
  have hpulse : pulse (startPulse e i s) e i = pulse s e i := rfl
  refine ⟨fun _ => ?_, fun hn => absurd (hb.symm.trans hn) (by decide)⟩
  simp only [BusyInv, startPulse_tx, hpos, hhalf, hpulse]
  exact ⟨h1, h32, ht, hr, he, fun h => by simp [hstop h], hdur, BitVec.le_refl _, trivial⟩

/-- A capture begins the first pulse of `START` (R202). -/
theorem accept_eq_startPulse (code : Word) (bits : BitVec 6) (rep : Half) (s : State) :
    accept code bits rep s = startPulse 0 0 (accept code bits rep s) := rfl

theorem sequencerInv_accept (code : Word) {bits : BitVec 6} {rep : Half} (h1 : 1 ≤ bits.toNat)
    (h32 : bits.toNat ≤ 32) (hr : rep ≠ 0) (ht : s.timing.teUs ≠ 0) :
    SequencerInv (accept code bits rep s) := by
  rw [accept_eq_startPulse]
  exact sequencerInv_startPulse ⟨rfl, h1, h32, ht, hr⟩ ⟨by omega, by omega, fun _ => rfl⟩

theorem sequencerInv_complete (s : State) : SequencerInv (complete s) := by
  simp [SequencerInv, IdleInv]

/-- What follows the end of a pulse is another pulse of the chain, or completion. -/
theorem sequencerInv_advance (hb : s.tx.txBusy = true) (h : BusyInv s) : SequencerInv (advance s) := by
  obtain ⟨h1, h32, ht, hr, he, hstop, -, -, -⟩ := h
  have hc : PlayableChain s := ⟨hb, h1, h32, ht, hr⟩
  by_cases hlast : s.tx.txElem.toNat = s.tx.txNbits.toNat + 1
  · by_cases hrep : 1 < s.tx.txRep.toNat
    · rw [advance_repeat (hstop hlast) hlast hrep]
      exact sequencerInv_startPulse ⟨hb, h1, h32, ht, by simp; bv_omega⟩
        ⟨by omega, by omega, fun _ => rfl⟩
    · rw [advance_complete (hstop hlast) hlast (by omega)]
      exact sequencerInv_complete s
  · cases hh : s.tx.txHalf with
    | false =>
      rw [advance_first hh (by omega)]
      exact sequencerInv_startPulse hc ⟨by omega, he, fun h => absurd h hlast⟩
    | true =>
      rw [advance_second hh (by omega)]
      exact sequencerInv_startPulse hc ⟨by omega, by omega, fun _ => rfl⟩

theorem sequencerInv_txTick (h : SequencerInv s) : SequencerInv (txTick s) := by
  obtain ⟨-, ht⟩ | ⟨hb, hrem, ht⟩ | ⟨hb, -, ht⟩ := txTick_cases s
  · rwa [ht]
  · obtain ⟨h1, h32, hte, hr, he, hstop, h0, hle, hl⟩ := h.1 hb
    rw [ht]
    refine ⟨fun _ => ⟨h1, h32, hte, hr, he, hstop, ?_, ?_, hl⟩,
      fun hn => absurd (hb.symm.trans hn) (by decide)⟩
    · show s.tx.txRem - 1 ≠ 0
      bv_omega
    · have hdec : s.tx.txRem - 1 ≤ s.tx.txRem := by bv_omega
      exact BitVec.le_trans hdec hle
  · rw [ht]
    exact sequencerInv_advance hb (h.1 hb)

/-! ## Every instruction, every step -/

/-- The invariant but for the outputs. -/
def BlockInv (s : State) : Prop := ReceiverInv s ∧ SequencerInv s ∧ ErrorsInv s

theorem errorsInv_rejectSend {c : BitVec 3} (hc : c = 1 ∨ c = 2 ∨ c = 3) :
    ErrorsInv (rejectSend c s) := by
  obtain rfl | rfl | rfl := hc <;> simp [ErrorsInv]

theorem errorsInv_writeStatus (data : Word) (h : ErrorsInv s) : ErrorsInv (writeStatus data s) := by
  cases hb : data.getLsbD 1
  · simpa [ErrorsInv, writeStatus, -BitVec.getLsbD_eq_getElem, hb] using h
  · simp [ErrorsInv, writeStatus, -BitVec.getLsbD_eq_getElem, hb]

theorem blockInv_tick (h : BlockInv s) : BlockInv (txTick (wdTick s)) := by
  obtain ⟨hr, hs, he⟩ := h
  refine ⟨?_, ?_, ?_⟩
  · exact receiverInv_congr (receiverInv_wdTick hr) (by simp) (by simp) (by simp)
  · exact sequencerInv_txTick (sequencerInv_congr hs (by simp) (by simp))
  · simpa only [ErrorsInv, txTick_err, wdTick_err] using he

theorem blockInv_send {code : Word} {bits : BitVec 6} {rep : Half} (h : BlockInv s)
    (hx : exec (.send code bits rep) s = next t) : BlockInv t := by
  obtain ⟨hr, hs, he⟩ := h
  obtain ⟨c, hc, hx'⟩ | ⟨-, -, h1, h32, hrep, hte, hx'⟩ := exec_send_cases s code bits rep
  · cases hx'.symm.trans hx
    exact ⟨hr, hs, errorsInv_rejectSend hc⟩
  · cases hx'.symm.trans hx
    exact ⟨hr, sequencerInv_accept code h1 h32 hrep hte, he⟩

theorem blockInv_writeCtrl (data : Word) (h : BlockInv s) : BlockInv (writeCtrl data s) := by
  obtain ⟨hr, hs, he⟩ := h
  refine ⟨receiverInv_writeCtrl data hr, ?_, ?_⟩
  · exact sequencerInv_congr hs (by rw [writeCtrl_frame]) (by rw [writeCtrl_frame])
  · rw [writeCtrl_frame]
    exact he

theorem blockInv_writeReg (a : Addr) (data : Word) (h : BlockInv s) : BlockInv (writeReg a data s) := by
  have ⟨hr, hs, he⟩ := h
  obtain ⟨-, hw⟩ | ⟨-, hw⟩ | ⟨-, -, g, hw⟩ | hw := writeReg_cases s a data
  · rw [hw]
    exact blockInv_writeCtrl data h
  · rw [hw]
    exact ⟨hr, hs, errorsInv_writeStatus data he⟩
  · rw [hw]
    exact ⟨hr, hs, he⟩
  · rw [hw]
    exact ⟨hr, hs, he⟩

theorem blockInv_readEffect (a : Addr) (h : BlockInv s) : BlockInv (readEffect a s) := by
  unfold readEffect
  split <;> exact h

theorem blockInv_resetFor (p : Params) : BlockInv (State.resetFor p) := by
  refine ⟨receiverInv_of_empty rfl rfl, ?_, ?_⟩
  · simp [SequencerInv, IdleInv, State.resetFor]
  · simp [ErrorsInv, State.resetFor]

/-- Every instruction an event word stands for keeps the invariant. The selector actions do not: taken
alone, one can emit a bit before a frame has begun. -/
theorem exec_keeps_blockInv {i : Instr} (hi : i.wellFormed = true) (h : BlockInv s)
    (hx : exec i s = next t) : BlockInv t := by
  cases i with
  | nop =>
    cases hx
    exact h
  | edge dir ts =>
    cases (exec_edge s dir ts).symm.trans hx
    split
    next he =>
      obtain ⟨-, hs, hErr⟩ := h
      refine ⟨receiverInv_takeEdge ts he, ?_⟩
      rw [takeEdge_frame]
      exact ⟨hs, hErr⟩
    next => exact h
  | tick =>
    cases hx
    exact blockInv_tick h
  | send code bits rep => exact blockInv_send h hx
  | wr a data =>
    cases hx
    exact blockInv_writeReg a data h
  | rd a =>
    cases hx
    exact blockInv_readEffect a h
  | reset =>
    cases hx
    exact blockInv_resetFor s.params
  | dec0 | dec1 | dec2 | dec3 | dec4 | dec5 | dec6 | dec7 => cases hi

/-- A step keeps the invariant but for the outputs, whatever the outputs were. -/
theorem step_keeps_blockInv (h : BlockInv s) (hst : step s = next t) : BlockInv t := by
  obtain ⟨-, hs⟩ | ⟨w, rest, i, -, hd, hs⟩ | ⟨w, rest, e, -, -, hs⟩ := step_cases s
  · cases hs.symm.trans hst
    exact h
  · obtain ⟨u, hu, rfl⟩ := finish_eq_next (hs.symm.trans hst)
    have hb : BlockInv (beginStep rest s) := h
    have hb' : BlockInv u := exec_keeps_blockInv (decode_wellFormed hd) hb hu
    exact hb'
  · cases hs.symm.trans hst
    exact h

/-- Settles O54: the decoder's, the timer's, the sequencer's and the errors' parts by the instruction the
step runs, the outputs' part by O10. -/
theorem stepKeepsInv : Obligations.StepKeepsInv := by
  rintro s t ⟨hd, hw, hq, he, -⟩ hst
  obtain ⟨⟨hd', hw'⟩, hq', he'⟩ := step_keeps_blockInv ⟨⟨hd, hw⟩, hq, he⟩ hst
  obtain ⟨hframe, hread, hline, -, -⟩ := outputsOfEveryStep s t hst
  exact ⟨hd', hw', hq', he', hframe, hread, hline⟩

end Sys2Proof.Machine
end

section
/-! PROOFS. What changes a field of the state: the whole-machine rules (O48 to O52), the reserved addresses
(O14), and the state after reset (O19, O20, O53). -/

namespace Sys2Proof.Machine

open Host.Outcome (next)

variable {s t : State} {i : Instr}

/-! ## What an instruction can do -/

/-- What an instruction can make of the state `s`: one case per update of the state, with the guard under
which it happens. -/
inductive Effect (s : State) : Instr → State → Prop where
  /-- Nothing: `NOP`, an edge while the receiver is disabled (R159), a write no register takes (R248). -/
  | unchanged (i : Instr) (hsame : exec i s = next s) : Effect s i s
  | edge (dir : Level) (ts : Word) (hen : s.ctl.rxEn = true) : Effect s (.edge dir ts) (takeEdge ts s)
  | tick : Effect s .tick { wdTick s with tx := (txTick s).tx }
  | reject (code : Word) (bits : BitVec 6) (rep : Half) (cause : BitVec 3) :
      Effect s (.send code bits rep) (rejectSend cause s)
  | capture (code : Word) (bits : BitVec 6) (rep : Half) (hidle : s.tx.txBusy = false) :
      Effect s (.send code bits rep) (accept code bits rep s)
  | control (data : Word) : Effect s (.wr 0x0 data) (writeCtrl data s)
  | status (data : Word) : Effect s (.wr 0x1 data) (writeStatus data s)
  | timing (a : Addr) (data : Word) (g : Timing) (hlo : 3 ≤ a.toNat) (hhi : a.toNat ≤ 9) :
      Effect s (.wr a data) { s with timing := g }
  | read (a : Addr) :
      Effect s (.rd a) (readEffect a { s with out := { s.out with rdataValid := true, rdata := readReg s a } })
  | reset : Effect s .reset { State.resetFor s.params with out := s.out, events := s.events }
  | selector (sel : Selector) : Effect s (decodeSelector sel) (selectorAction sel s)

/-- An instruction that answers a next state does one of these things. -/
theorem exec_effect (h : exec i s = next t) : Effect s i t := by
  cases i with
  | nop => cases h; exact .unchanged _ rfl
  | edge dir ts =>
    cases hen : s.ctl.rxEn with
    | true =>
      cases ((exec_edge s dir ts).trans (by rw [if_pos hen])).symm.trans h
      exact .edge dir ts hen
    | false =>
      have hsame : exec (.edge dir ts) s = next s := by simp [exec_edge, hen]
      cases hsame.symm.trans h
      exact .unchanged _ hsame
  | tick => cases (exec_tick s).symm.trans h; exact .tick
  | send code bits rep =>
    obtain ⟨c, -, hs⟩ | ⟨-, hidle, -, -, -, -, hs⟩ := exec_send_cases s code bits rep
    · cases hs.symm.trans h; exact .reject code bits rep c
    · cases hs.symm.trans h; exact .capture code bits rep hidle
  | wr a data =>
    cases h
    obtain ⟨rfl, hw⟩ | ⟨rfl, hw⟩ | ⟨hlo, hhi, g, hw⟩ | hw := writeReg_cases s a data <;> rw [hw]
    · exact .control data
    · exact .status data
    · exact .timing a data g hlo hhi
    · exact .unchanged _ (congrArg next hw)
  | rd a => cases h; exact .read a
  | reset => cases h; exact .reset
  | dec0 => cases h; exact .selector 0
  | dec1 => cases h; exact .selector 1
  | dec2 => cases h; exact .selector 2
  | dec3 => cases h; exact .selector 3
  | dec4 => cases h; exact .selector 4
  | dec5 => cases h; exact .selector 5
  | dec6 => cases h; exact .selector 6
  | dec7 => cases h; exact .selector 7

/-! ## The fields an operation leaves -/

@[simp] theorem takeEdge_ctl (ts : Word) (s : State) : (takeEdge ts s).ctl = s.ctl := by rw [takeEdge_frame]
@[simp] theorem takeEdge_timing (ts : Word) (s : State) : (takeEdge ts s).timing = s.timing := by
  rw [takeEdge_frame]
@[simp] theorem takeEdge_latch (ts : Word) (s : State) : (takeEdge ts s).latch = s.latch := by
  rw [takeEdge_frame]
@[simp] theorem takeEdge_tx (ts : Word) (s : State) : (takeEdge ts s).tx = s.tx := by rw [takeEdge_frame]
@[simp] theorem takeEdge_err (ts : Word) (s : State) : (takeEdge ts s).err = s.err := by rw [takeEdge_frame]
@[simp] theorem takeEdge_events (ts : Word) (s : State) : (takeEdge ts s).events = s.events := by
  rw [takeEdge_frame]
@[simp] theorem takeEdge_params (ts : Word) (s : State) : (takeEdge ts s).params = s.params := by
  rw [takeEdge_frame]

@[simp] theorem selectorAction_ctl (sel : Selector) (s : State) : (selectorAction sel s).ctl = s.ctl := by
  rw [selectorAction_frame]
@[simp] theorem selectorAction_timing (sel : Selector) (s : State) :
    (selectorAction sel s).timing = s.timing := by rw [selectorAction_frame]
@[simp] theorem selectorAction_latch (sel : Selector) (s : State) :
    (selectorAction sel s).latch = s.latch := by rw [selectorAction_frame]
@[simp] theorem selectorAction_tx (sel : Selector) (s : State) : (selectorAction sel s).tx = s.tx := by
  rw [selectorAction_frame]
@[simp] theorem selectorAction_err (sel : Selector) (s : State) : (selectorAction sel s).err = s.err := by
  rw [selectorAction_frame]
@[simp] theorem selectorAction_events (sel : Selector) (s : State) :
    (selectorAction sel s).events = s.events := by rw [selectorAction_frame]
@[simp] theorem selectorAction_params (sel : Selector) (s : State) :
    (selectorAction sel s).params = s.params := by rw [selectorAction_frame]

@[simp] theorem writeCtrl_timing (data : Word) (s : State) : (writeCtrl data s).timing = s.timing := by
  rw [writeCtrl_frame]
@[simp] theorem writeCtrl_latch (data : Word) (s : State) : (writeCtrl data s).latch = s.latch := by
  rw [writeCtrl_frame]
@[simp] theorem writeCtrl_tx (data : Word) (s : State) : (writeCtrl data s).tx = s.tx := by
  rw [writeCtrl_frame]
@[simp] theorem writeCtrl_err (data : Word) (s : State) : (writeCtrl data s).err = s.err := by
  rw [writeCtrl_frame]
@[simp] theorem writeCtrl_events (data : Word) (s : State) : (writeCtrl data s).events = s.events := by
  rw [writeCtrl_frame]
@[simp] theorem writeCtrl_params (data : Word) (s : State) : (writeCtrl data s).params = s.params := by
  rw [writeCtrl_frame]

/-- A read has a side effect on `RX_PEND` alone, and only at `RX_FRAME` (R243). -/
theorem readEffect_eq (a : Addr) (s : State) :
    readEffect a s =
      { s with latch := if a = 0x2 then { s.latch with rxPend := false } else s.latch } := by
  unfold readEffect
  split <;> rfl

/-! ## The chain in flight -/

/-- The sequencer `r` plays the chain of `q`, with no more plays left. -/
def KeepsChain (q r : Sequencer) : Prop :=
  r.txCode = q.txCode ∧ r.txNbits = q.txNbits ∧ r.txTe = q.txTe ∧ r.txRep.toNat ≤ q.txRep.toNat

theorem keepsChain_refl (q : Sequencer) : KeepsChain q q := ⟨rfl, rfl, rfl, Nat.le_refl _⟩

/-- What follows a pulse: another pulse of this play, the first pulse of the next one, or completion. -/
theorem advance_cases (s : State) :
    (∃ e i, advance s = startPulse e i s) ∨
      (1 < s.tx.txRep.toNat ∧
        advance s = startPulse 0 0 { s with tx := { s.tx with txRep := s.tx.txRep - 1 } }) ∨
      advance s = complete s := by
  simp only [advance]
  split
  · exact .inl ⟨_, _, rfl⟩
  · split
    · exact .inl ⟨_, _, rfl⟩
    · split
      next hrep => exact .inr (.inl ⟨hrep, rfl⟩)
      next => exact .inr (.inr rfl)

theorem keepsChain_advance (s : State) : KeepsChain s.tx (advance s).tx := by
  obtain ⟨e, i, h⟩ | ⟨hrep, h⟩ | h := advance_cases s <;> rw [h]
  · exact keepsChain_refl s.tx
  · have hle : (s.tx.txRep - 1).toNat ≤ s.tx.txRep.toNat := by bv_omega
    exact ⟨rfl, rfl, rfl, hle⟩
  · exact ⟨rfl, rfl, rfl, Nat.zero_le _⟩

theorem keepsChain_txTick (s : State) : KeepsChain s.tx (txTick s).tx := by
  obtain ⟨-, h⟩ | ⟨-, -, h⟩ | ⟨-, -, h⟩ := txTick_cases s <;> rw [h]
  · exact keepsChain_refl s.tx
  · exact keepsChain_refl s.tx
  · exact keepsChain_advance s

/-- Settles O48: a `SEND` captures a chain only while none plays, and a `TICK` keeps the chain it plays. -/
theorem chainInFlightIsImmutable : Obligations.ChainInFlightIsImmutable := by
  intro i s t hi hbusy h
  show KeepsChain s.tx t.tx
  cases exec_effect h with
  | tick => exact keepsChain_txTick s
  | capture code bits rep hidle => exact absurd (hbusy.symm.trans hidle) (by decide)
  | reset => exact absurd rfl hi
  | edge dir ts => rw [takeEdge_tx]; exact keepsChain_refl s.tx
  | control data => rw [writeCtrl_tx]; exact keepsChain_refl s.tx
  | read a => rw [readEffect_eq]; exact keepsChain_refl s.tx
  | selector sel => rw [selectorAction_tx]; exact keepsChain_refl s.tx
  | unchanged | reject | status | timing => exact keepsChain_refl s.tx

/-! ## The configuration -/

/-- A change of the timing group comes from a reset or a write to its addresses. -/
theorem timing_changes_of_effect (h : Effect s i t) (hne : t.timing ≠ s.timing) :
    i = .reset ∨ ∃ a data, i = .wr a data ∧ 3 ≤ a.toNat ∧ a.toNat ≤ 9 := by
  cases h with
  | reset => exact .inl rfl
  | timing a data g hlo hhi => exact .inr ⟨a, data, rfl, hlo, hhi⟩
  | read a => exact absurd (by rw [readEffect_eq]) hne
  | edge | tick | control | selector => exact absurd (by simp) hne
  | unchanged | reject | capture | status => exact absurd rfl hne

/-- A change of the control group comes from a reset or a write to `CTRL`. -/
theorem ctl_changes_of_effect (h : Effect s i t) (hne : t.ctl ≠ s.ctl) :
    i = .reset ∨ ∃ data, i = .wr 0x0 data := by
  cases h with
  | reset => exact .inl rfl
  | control data => exact .inr ⟨data, rfl⟩
  | read a => exact absurd (by rw [readEffect_eq]) hne
  | edge | tick | selector => exact absurd (by simp) hne
  | unchanged | reject | capture | status | timing => exact absurd rfl hne

/-- No instruction writes the parameters or the pending words. -/
theorem params_events_of_effect (h : Effect s i t) : t.params = s.params ∧ t.events = s.events := by
  cases h with
  | read a => rw [readEffect_eq]; exact ⟨rfl, rfl⟩
  | edge | control | selector | tick => simp
  | unchanged | reject | capture | timing | status | reset => exact ⟨rfl, rfl⟩

/-- Settles O49, one group of fields at a time. -/
theorem configurationChangesOnlyByTheHost : Obligations.ConfigurationChangesOnlyByTheHost := by
  intro i s t h
  have he := exec_effect h
  exact ⟨timing_changes_of_effect he, ctl_changes_of_effect he, params_events_of_effect he⟩

/-! ## The frame latch -/

/-- The watchdog's part of a `TICK` writes the latch only in delivering a frame (R185). -/
theorem wdTick_latch (s : State) :
    (wdTick s).latch =
      if expiresNext s ∧ ¬ discards s then
        { rxFrame := s.dec.rxSr, rxFrameErr := s.dec.rxErr, rxPend := true
          rxOvr := s.latch.rxOvr || s.latch.rxPend }
      else s.latch := by
  obtain ⟨ha, h⟩ | ⟨ha, hc, h⟩ | ⟨-, hc, h⟩ := wdTick_cases s
  · rw [h, if_neg (fun hx => by simp [expiresNext, ha] at hx)]
  · rw [h, expire_eq]
    by_cases hd : discards s
    · rw [if_pos hd, if_neg (fun hx => hx.2 hd)]
      rfl
    · rw [if_neg hd, if_pos ⟨⟨ha, hc⟩, hd⟩, deliver_eq]
      rfl
  · rw [h, if_neg (fun hx => by have := hx.1.2; omega)]

/-- Settles O51: an edge, a `SEND`, a selector action and a write to `CTRL` leave the latch, and each of the
other events changes it only as R36 says. -/
theorem latchChangesOnlyAsSaid : Obligations.LatchChangesOnlyAsSaid := by
  intro i s t h hne
  cases exec_effect h with
  | tick =>
    by_cases hx : expiresNext s ∧ ¬ discards s
    · exact .inl ⟨rfl, hx.1, by rw [wdTick_out, if_pos hx]⟩
    · exact absurd (by rw [wdTick_latch, if_neg hx]) hne
  | read a =>
    by_cases ha : a = 0x2
    · exact .inr (.inl ⟨by rw [ha], by rw [readEffect_eq, if_pos ha]⟩)
    · exact absurd (by rw [readEffect_eq, if_neg ha]) hne
  | status data =>
    cases hb : data.getLsbD 3 with
    | true => exact .inr (.inr (.inl ⟨data, rfl, hb, by simp only [writeStatus, hb, if_true]⟩))
    | false => exact absurd (by simp only [writeStatus, hb]; rfl) hne
  | reset => exact .inr (.inr (.inr rfl))
  | unchanged | edge | reject | capture | control | timing | selector => exact absurd (by simp) hne

/-! ## The sticky indications -/

theorem wdTick_keeps_rxOvr (h : s.latch.rxOvr = true) : (wdTick s).latch.rxOvr = true := by
  rw [wdTick_latch]
  split
  · simp [h]
  · exact h

/-- The error group changes only by a `SEND` that is rejected, a write to `STATUS`, or a reset. -/
theorem err_cases_of_effect (h : Effect s i t) :
    t.err = s.err ∨
      (∃ c b r cause, i = .send c b r ∧ t.err = { s.err with txErr := true, txCause := cause }) ∨
      (∃ d, i = .wr 0x1 d ∧ t.err = (writeStatus d s).err) ∨ i = .reset := by
  cases h with
  | reject c b r cause => exact .inr (.inl ⟨c, b, r, cause, rfl, rfl⟩)
  | status d => exact .inr (.inr (.inl ⟨d, rfl, rfl⟩))
  | reset => exact .inr (.inr (.inr rfl))
  | read a => exact .inl (by rw [readEffect_eq])
  | unchanged | edge | tick | capture | control | timing | selector => exact .inl (by simp)

theorem txErr_cleared_of_effect (h : Effect s i t) (h1 : s.err.txErr = true) (h0 : t.err.txErr = false) :
    i = .reset ∨ ∃ d, i = .wr 0x1 d ∧ d.getLsbD 1 = true := by
  obtain he | ⟨c, b, r, cause, -, he⟩ | ⟨d, hi, he⟩ | hi := err_cases_of_effect h
  · simp [he, h1] at h0
  · simp [he] at h0
  · exact .inr ⟨d, hi, by simpa [he, writeStatus, h1] using h0⟩
  · exact .inl hi

theorem evIll_cleared_of_effect (h : Effect s i t) (h1 : s.err.evIll = true) (h0 : t.err.evIll = false) :
    i = .reset ∨ ∃ d, i = .wr 0x1 d ∧ d.getLsbD 4 = true := by
  obtain he | ⟨c, b, r, cause, -, he⟩ | ⟨d, hi, he⟩ | hi := err_cases_of_effect h
  · simp [he, h1] at h0
  · simp [he, h1] at h0
  · exact .inr ⟨d, hi, by simpa [he, writeStatus, h1] using h0⟩
  · exact .inl hi

theorem txCause_changes_of_effect (h : Effect s i t) (hne : t.err.txCause ≠ s.err.txCause) :
    i = .reset ∨ (∃ d, i = .wr 0x1 d ∧ d.getLsbD 1 = true) ∨
      ((∃ c b r, i = .send c b r) ∧ t.err.txErr = true) := by
  obtain he | ⟨c, b, r, cause, hi, he⟩ | ⟨d, hi, he⟩ | hi := err_cases_of_effect h
  · exact absurd (by rw [he]) hne
  · exact .inr (.inr ⟨⟨c, b, r, hi⟩, by rw [he]⟩)
  · refine .inr (.inl ⟨d, hi, ?_⟩)
    by_contra hb
    exact hne (by rw [he, writeStatus]; exact if_neg hb)
  · exact .inl hi

/-- A `TICK` that delivers can only set `RX_OVR`. -/
theorem rxOvr_cleared_of_exec (h : exec i s = next t) (h1 : s.latch.rxOvr = true)
    (h0 : t.latch.rxOvr = false) : i = .reset ∨ ∃ d, i = .wr 0x1 d ∧ d.getLsbD 3 = true := by
  have hne : t.latch ≠ s.latch := fun he => by simp [he, h1] at h0
  obtain ⟨rfl, -, -⟩ | ⟨-, hl⟩ | ⟨d, hi, hb, -⟩ | hi := latchChangesOnlyAsSaid i s t h hne
  · cases (exec_tick s).symm.trans h
    exact absurd ((wdTick_keeps_rxOvr h1).symm.trans h0) (by decide)
  · simp [hl, h1] at h0
  · exact .inr ⟨d, hi, hb⟩
  · exact .inl hi

/-- Settles O50, one indication at a time. -/
theorem stickyIndicationsStay : Obligations.StickyIndicationsStay := by
  intro i s t h
  have he := exec_effect h
  exact ⟨txErr_cleared_of_effect he, rxOvr_cleared_of_exec h, evIll_cleared_of_effect he,
    txCause_changes_of_effect he⟩

/-! ## The error flag of a frame -/

/-- A selector action can set `RX_ERR` and never clears it. -/
theorem selectorAction_keeps_rxErr (sel : Selector) (h : s.dec.rxErr = true) :
    (selectorAction sel s).dec.rxErr = true := by
  unfold selectorAction
  split
  case h_2 | h_4 | h_7 => rfl
  all_goals exact h

theorem bitDecode_keeps_rxErr (high low : Word) (h : s.dec.rxErr = true) :
    (bitDecode high low s).dec.rxErr = true := by
  unfold bitDecode
  exact selectorAction_keeps_rxErr _ (by simp [noteInvalid_eq, h])

/-- Only the first edge of a frame clears `RX_ERR` (R143). -/
theorem takeEdge_keeps_rxErr (ts : Word) (hcnt : s.dec.rxEcnt ≠ 0) (h : s.dec.rxErr = true) :
    (takeEdge ts s).dec.rxErr = true := by
  simp only [takeEdge, edgePhase, armWatchdog_dec]
  split
  · next h0 => exact absurd (BitVec.eq_of_toNat_eq h0) hcnt
  · exact h
  · exact h
  · exact bitDecode_keeps_rxErr _ _ h

/-- Only an expiring `TICK` changes the decoder. -/
theorem wdTick_dec_of_not_expiresNext (h : ¬ expiresNext s) : (wdTick s).dec = s.dec := by
  obtain ⟨-, hw⟩ | ⟨ha, hc, -⟩ | ⟨-, -, hw⟩ := wdTick_cases s
  · rw [hw]
  · exact absurd ⟨ha, hc⟩ h
  · rw [hw]

/-- Settles O52: on every other path of the four events, and in every other event, a set `RX_ERR` stays. -/
theorem frameErrorFlagClearedOnlyWithTheDecoder :
    Obligations.FrameErrorFlagClearedOnlyWithTheDecoder := by
  intro i s t h h1 h0
  have hkept : t.dec.rxErr ≠ true := by simp [h0]
  cases exec_effect h with
  | edge dir ts hen =>
    refine .inl ⟨dir, ts, rfl, hen, ?_⟩
    by_contra hcnt
    exact hkept (takeEdge_keeps_rxErr ts hcnt h1)
  | tick =>
    refine .inr (.inl ⟨rfl, ?_⟩)
    by_contra hx
    exact hkept (by rw [wdTick_dec_of_not_expiresNext hx, h1])
  | control data =>
    obtain ⟨-, -, hw⟩ | ⟨hen, hd, -⟩ | ⟨-, hw⟩ := writeCtrl_cases s data
    · exact absurd (by rw [hw]; exact h1) hkept
    · exact .inr (.inr (.inl ⟨data, rfl, hen, hd⟩))
    · exact absurd (by rw [hw]; exact h1) hkept
  | reset => exact .inr (.inr (.inr rfl))
  | selector sel => exact absurd (selectorAction_keeps_rxErr sel h1) hkept
  | read a => exact absurd (by rw [readEffect_eq]; exact h1) hkept
  | unchanged | reject | capture | status | timing => exact absurd h1 hkept

/-! ## Reserved addresses -/

/-- A reserved address reads 0 (R32). -/
theorem readReg_reserved (s : State) {a : Addr} (ha : 0xA ≤ a.toNat) : readReg s a = 0 := by
  unfold readReg
  split
  case h_11 => rfl
  all_goals omega

/-- No register takes a write to `RX_FRAME` or to a reserved address (R248). -/
theorem writeReg_ignored (data : Word) (s : State) {a : Addr} (ha : a.toNat = 0x2 ∨ 0xA ≤ a.toNat) :
    writeReg a data s = s := by
  unfold writeReg
  split
  case h_10 => rfl
  all_goals omega

/-- Settles O14. -/
theorem reservedAddressesReadZeroIgnoreWrites : Obligations.ReservedAddressesReadZeroIgnoreWrites := by
  intro a data s
  refine ⟨fun ha => ?_, fun ha => congrArg next (writeReg_ignored data s ha)⟩
  have hne : a ≠ 0x2 := by rintro rfl; exact absurd ha (by decide)
  simp only [exec, execRd, readReg_reserved s ha, readEffect, if_neg hne]

/-! ## The state after reset -/

/-- Settles O19: `State.resetFor` writes each field out. -/
theorem resetValues : Obligations.ResetValues :=
  ⟨rfl, fun _ => ⟨rfl, rfl, rfl, rfl, rfl, rfl, rfl⟩⟩

theorem ctrlWord_resetFor (p : Params) : ctrlWord (State.resetFor p) = 0x00000000 := by
  simp [ctrlWord, State.resetFor]

/-- After reset the only bit of `STATUS` that can be set is bit 8, the level of the line (R25). -/
theorem statusWord_resetFor (p : Params) :
    statusWord (State.resetFor p) = if p.txIdleLevel = true then 0x00000100 else 0x00000000 := by
  obtain ⟨level⟩ := p
  cases level <;> rfl

/-- Settles O20: each register from the fields it shows. -/
theorem registersAfterReset : Obligations.RegistersAfterReset := by
  intro p
  refine ⟨ctrlWord_resetFor p, statusWord_resetFor p, ?_, ?_, ?_, ?_, ?_, ?_, ?_, ?_,
    fun a ha => readReg_reserved _ ha⟩ <;> rfl

theorem inv_resetFor (p : Params) : Inv (State.resetFor p) := by
  obtain ⟨⟨hd, hw⟩, hq, he⟩ := blockInv_resetFor p
  exact ⟨hd, hw, hq, he, fun _ => ⟨rfl, rfl⟩, fun _ => rfl, rfl⟩

/-- Settles O53. -/
theorem invAtReset : Obligations.InvAtReset := ⟨inv_resetFor Config.params, inv_resetFor⟩

end Sys2Proof.Machine
end

section
/-! PROOFS. An edge and the `TICK` that would expire the silence timer, in either order (O37). -/

namespace Sys2Proof

theorem decode_tickWord : decode tickWord = .ok .tick := by decide

/-- A field of an edge's word as a number. -/
theorem edgeWord_field_toNat (dir : Level) (ts : Word) (lo len : Nat) :
    ((edgeWord dir ts).extractLsb' lo len).toNat =
      (0x1 * 2 ^ 60 + dir.toNat * 2 ^ 32 + ts.toNat) / 2 ^ lo % 2 ^ len := by
  rw [field_toNat, edgeWord_toNat]

/-- The direction is bit 32 of an edge's word (R83). -/
theorem edgeWord_getLsbD_dir (dir : Level) (ts : Word) : (edgeWord dir ts).getLsbD 32 = dir := by
  have hts := ts.isLt
  rw [BitVec.getLsbD, Nat.testBit_eq_decide_div_mod_eq, edgeWord_toNat]
  cases dir <;> simp <;> omega

theorem decode_edgeWord (dir : Level) (ts : Word) : decode (edgeWord dir ts) = .ok (.edge dir ts) := by
  have hdir := dir.toNat_lt
  have hts := ts.isLt
  have hop : (opField (edgeWord dir ts)).toNat = 0x1 := by
    rw [opField, edgeWord_field_toNat]
    omega
  have hreserved : (edgeWord dir ts).extractLsb' 33 27 = 0 := by
    refine BitVec.eq_of_toNat_eq ((edgeWord_field_toNat dir ts 33 27).trans ?_)
    change _ = 0
    omega
  have htime : (edgeWord dir ts).extractLsb' 0 32 = ts := by
    refine BitVec.eq_of_toNat_eq ((edgeWord_field_toNat dir ts 0 32).trans ?_)
    omega
  unfold decode
  rw [hop]
  simp only [hreserved, htime, edgeWord_getLsbD_dir, ifReservedZero, if_true]

end Sys2Proof

namespace Sys2Proof.Machine

open Host.Outcome (next)

variable {s : State} {rest : List EventWord}

/-! ## The two steps -/

theorem step_tickWord (h : s.events = tickWord :: rest) :
    step s = next (endStep { wdTick (beginStep rest s) with tx := (txTick (beginStep rest s)).tx }) := by
  rw [step_of_decode s h decode_tickWord, exec_tick, finish_next]

/-- The step of an edge while the receiver is enabled. -/
theorem step_edgeWord {dir : Level} {ts : Word} (h : s.events = edgeWord dir ts :: rest)
    (hen : s.ctl.rxEn = true) : step s = next (endStep (takeEdge ts (beginStep rest s))) := by
  rw [step_of_decode s h (decode_edgeWord dir ts), exec_edge, beginStep_ctl, if_pos hen,
    finish_next]

/-! ## The timer and the decoder after each -/

/-- An edge arms the timer with `SILENCE_US` (R180). -/
@[simp] theorem takeEdge_wd (ts : Word) (s : State) :
    (takeEdge ts s).wd = { wdArmed := true, wdCnt := s.timing.silenceUs } := by rw [takeEdge_frame]

/-- An edge that finds no frame open opens one with no bit received (R143). -/
theorem takeEdge_dec_first (ts : Word) (h : s.dec.rxEcnt = 0) :
    (takeEdge ts s).dec = { emptyDecoder ts with rxEcnt := 1 } := by
  simp [takeEdge, edgePhase, h, emptyDecoder]

/-- With `SILENCE_US` of 2 or more the `TICK` after an edge does not expire the timer (R183). -/
theorem not_expiresNext_takeEdge (ts : Word) (h : 2 ≤ s.timing.silenceUs.toNat) :
    ¬ expiresNext (takeEdge ts s) := by
  intro hx
  have hle : s.timing.silenceUs.toNat ≤ 1 := by simpa using hx.2
  omega

theorem wdTick_wdArmed_of_not_expiresNext (h : ¬ expiresNext s) :
    (wdTick s).wd.wdArmed = s.wd.wdArmed := by
  obtain ⟨-, hw⟩ | ⟨ha, hc, -⟩ | ⟨-, -, hw⟩ := wdTick_cases s
  · rw [hw]
  · exact absurd ⟨ha, hc⟩ h
  · rw [hw]

theorem wdTick_dec_of_expiresNext (h : expiresNext s) :
    (wdTick s).dec = emptyDecoder s.dec.rxPrevTs := by
  obtain ⟨ha, -⟩ | ⟨-, -, hw⟩ | ⟨-, hc, -⟩ := wdTick_cases s
  · exact absurd (h.1.symm.trans ha) (by decide)
  · rw [hw, expire_dec]
  · exact absurd h.2 (by omega)

/-! ## The two orders -/

/-- The edge first: the timer it arms does not expire at the `TICK`, so no frame is delivered. -/
theorem edge_then_tick_delivers_nothing {dir : Level} {ts : Word}
    (h : s.events = edgeWord dir ts :: tickWord :: rest) (hen : s.ctl.rxEn = true)
    (hsil : 2 ≤ s.timing.silenceUs.toNat) :
    ∃ t u, step s = next t ∧ step t = next u ∧
      t.out.frameValid = false ∧ u.out.frameValid = false ∧ u.wd.wdArmed = true ∧ u.latch = s.latch := by
  let t := endStep (takeEdge ts (beginStep (tickWord :: rest) s))
  have hevents : t.events = tickWord :: rest := by simp [t]
  have hnx : ¬ expiresNext (beginStep rest t) := not_expiresNext_takeEdge ts hsil
  refine ⟨t, _, step_edgeWord h hen, step_tickWord hevents, ?_, ?_, ?_, ?_⟩
  · simp [t, noOutputs]
  · simp [wdTick_out, hnx, noOutputs]
  · simp [wdTick_wdArmed_of_not_expiresNext hnx, t]
  · simp [wdTick_latch, hnx, t]

/-- The `TICK` first: the frame is delivered, and the edge finds an empty decoder and opens a frame. -/
theorem tick_then_edge_delivers_and_opens {dir : Level} {ts : Word}
    (h : s.events = tickWord :: edgeWord dir ts :: rest) (hen : s.ctl.rxEn = true)
    (hx : expiresNext s) (hd : ¬ discards s) :
    ∃ t u, step s = next t ∧ step t = next u ∧
      t.out.frameValid = true ∧ t.out.frameValue = s.dec.rxSr ∧ u.out.frameValid = false ∧
      u.dec.rxEcnt = 1 ∧ u.dec.rxSr = 0 := by
  let s0 := beginStep (edgeWord dir ts :: rest) s
  let t := endStep { wdTick s0 with tx := (txTick s0).tx }
  have hevents : t.events = edgeWord dir ts :: rest := by simp [t, s0]
  have hent : t.ctl.rxEn = true := by simpa [t, s0] using hen
  have hout : (wdTick s0).out =
      { s0.out with frameValid := true, frameValue := s.dec.rxSr, frameErr := s.dec.rxErr } :=
    wdTick_out.trans (if_pos ⟨hx, hd⟩)
  have hempty : t.dec = emptyDecoder s.dec.rxPrevTs := wdTick_dec_of_expiresNext (s := s0) hx
  have hopen : (takeEdge ts (beginStep rest t)).dec = { emptyDecoder ts with rxEcnt := 1 } :=
    takeEdge_dec_first ts (congrArg Decoder.rxEcnt hempty)
  refine ⟨t, _, step_tickWord h, step_edgeWord hevents hent, ?_, ?_, ?_, ?_, ?_⟩
  · simp [t, hout]
  · simp [t, hout]
  · simp [noOutputs]
  · simp [hopen]
  · simp [hopen, emptyDecoder]

/-- Settles O37, one lemma for each order. -/
theorem edgeAndExpiringTickInEitherOrder : Obligations.EdgeAndExpiringTickInEitherOrder :=
  fun _ _ _ _ hen hx hd hsil =>
    ⟨edge_then_tick_delivers_nothing rfl hen hsil, tick_then_edge_delivers_and_opens rfl hen hx hd⟩

end Sys2Proof.Machine
end

section
/-! PROOFS. The encoding of the events: decoding and encoding agree on every word and every instruction (O1
to O4), and the assembler's words are those of R96's table (O5). -/

namespace Sys2Proof

open Sys2Proof.Machine

/-! ## A word from its fields, and back -/

/-- A field of a word is the bit vector it reads as. -/
theorem field_eq {w : EventWord} {lo len : Nat} {x : BitVec len}
    (h : w.toNat / 2 ^ lo % 2 ^ len = x.toNat) : w.extractLsb' lo len = x :=
  BitVec.eq_of_toNat_eq ((field_toNat w lo len).trans h)

/-- A field is 0 exactly when it is so as a number. -/
theorem field_eq_zero_iff {w : EventWord} {lo len : Nat} :
    w.extractLsb' lo len = 0 ↔ w.toNat / 2 ^ lo % 2 ^ len = 0 := by
  rw [← BitVec.toNat_inj, field_toNat]; rfl

/-- Two fields laid side by side are 0 exactly when each is. -/
theorem append_eq_zero_iff {m n : Nat} {x : BitVec m} {y : BitVec n} : x ++ y = 0 ↔ x = 0 ∧ y = 0 := by
  simp only [← BitVec.toNat_inj, toNat_append_add]
  simp

theorem ifReservedZero_eq_ok_iff {n : Nat} {r : BitVec n} {i j : Instr} :
    ifReservedZero r i = .ok j ↔ r = 0 ∧ i = j := by
  unfold ifReservedZero
  split
  next h => simp [h]
  next h => exact ⟨nofun, fun hr => absurd hr.1 h⟩

theorem opField_toNat (w : EventWord) : (opField w).toNat = w.toNat / 2 ^ 60 % 2 ^ 4 :=
  field_toNat w 60 4

theorem decode_sendWord (code : Word) (bits : BitVec 6) (rep : Half) :
    decode (sendWord code bits rep) = .ok (.send code bits rep) := by
  have hw := sendWord_toNat code bits rep
  have hop : (opField (sendWord code bits rep)).toNat = 0x3 := by rw [opField_toNat]; omega
  unfold decode
  rw [hop]
  refine ifReservedZero_eq_ok_iff.2 ⟨field_eq_zero_iff.2 (by omega), ?_⟩
  congr 1 <;> refine field_eq ?_ <;> omega

theorem decode_writeWord (addr : Addr) (data : Word) :
    decode (writeWord addr data) = .ok (.wr addr data) := by
  have hw := writeWord_toNat addr data
  have hop : (opField (writeWord addr data)).toNat = 0x4 := by rw [opField_toNat]; omega
  unfold decode
  rw [hop]
  refine ifReservedZero_eq_ok_iff.2 ⟨field_eq_zero_iff.2 (by omega), ?_⟩
  congr 1 <;> refine field_eq ?_ <;> omega

theorem decode_readWord (addr : Addr) : decode (readWord addr) = .ok (.rd addr) := by
  have hw := readWord_toNat addr
  have hop : (opField (readWord addr)).toNat = 0x5 := by rw [opField_toNat]; omega
  unfold decode
  rw [hop]
  refine ifReservedZero_eq_ok_iff.2
    ⟨append_eq_zero_iff.2 ⟨field_eq_zero_iff.2 (by omega), field_eq_zero_iff.2 (by omega)⟩, ?_⟩
  congr 1; exact field_eq (by omega)

/-! ## Decoding and encoding -/

theorem decodeCode_encode (i : Instr) : decodeCode (encode i) = .ok i := by
  cases i with
  | edge dir ts => exact decode_edgeWord dir ts
  | send code bits rep => exact decode_sendWord code bits rep
  | wr addr data => exact decode_writeWord addr data
  | rd addr => exact decode_readWord addr
  | _ => decide

/-- A legal word, built again from the fields the decoder reads, is the word: its reserved bits are 0. -/
theorem encode_of_decode {w : EventWord} {i : Instr} (h : decode w = .ok i) : encode i = .event w := by
  unfold decode at h
  split at h
  case h_8 => cases h
  all_goals
    rename_i hop
    obtain ⟨hres, rfl⟩ := ifReservedZero_eq_ok_iff.1 h
    rw [opField_toNat] at hop
    simp only [append_eq_zero_iff, field_eq_zero_iff] at hres
    refine congrArg Code.event (BitVec.eq_of_toNat_eq ?_)
  case h_2 => -- `EDGE`
    rw [edgeWord_toNat, field_toNat, BitVec.getLsbD, Nat.toNat_testBit]
    omega
  case h_4 => -- `SEND`
    rw [sendWord_toNat, field_toNat, field_toNat, field_toNat]
    omega
  case h_5 => -- `WRITE`
    rw [writeWord_toNat, field_toNat, field_toNat]
    omega
  case h_6 => -- `READ`
    rw [readWord_toNat, field_toNat]
    omega
  all_goals -- the words of format Z (R82)
    simp only [tickWord, BitVec.ofNat_eq_ofNat, BitVec.toNat_ofNat]
    omega

theorem decode_eq_ok_iff {w : EventWord} {i : Instr} : decode w = .ok i ↔ encode i = .event w := by
  refine ⟨encode_of_decode, fun h => ?_⟩
  have hi := decodeCode_encode i
  rwa [h] at hi

theorem encodeEvent_eq_some_iff {w : EventWord} {i : Instr} :
    encodeEvent i = some w ↔ encode i = .event w := by
  unfold encodeEvent
  cases encode i <;> simp

/-- The events are the instructions with an event word (R81, R93). -/
theorem encodeEvent_isSome (i : Instr) : (encodeEvent i).isSome = i.wellFormed := by
  cases i <;> rfl

/-- Settles O3. -/
theorem decodeOfEncode : Obligations.DecodeOfEncode := by
  refine fun i => ⟨decodeCode_encode i, fun hwf => ?_, fun hwf => ?_⟩
  · obtain ⟨w, hw⟩ := Option.isSome_iff_exists.1 ((encodeEvent_isSome i).trans hwf)
    exact ⟨w, hw, decode_eq_ok_iff.2 (encodeEvent_eq_some_iff.1 hw)⟩
  · have hnone := Option.isSome_eq_false_iff.1 ((encodeEvent_isSome i).trans hwf)
    exact Option.isNone_iff_eq_none.1 hnone

/-- Settles O4. -/
theorem encodeOfDecode : Obligations.EncodeOfDecode :=
  fun _ _ h => ⟨encode_of_decode h, decode_wellFormed h⟩

/-! ## The decoder's lines, in numbers -/

/-- A word with the number of an event's code decodes to the event. -/
theorem decode_eq_ok_of_toNat {w v : EventWord} {i : Instr} (hv : encode i = .event v)
    (h : w.toNat = v.toNat) : decode w = .ok i := by
  rw [decode_eq_ok_iff, hv, BitVec.eq_of_toNat_eq h]

/-- A field of one bit, tested for 1 and read as a number again. -/
theorem toNat_decide_eq_one {n : Nat} (h : n < 2) : (decide (n = 1)).toNat = n := by
  interval_cases n <;> rfl

/-- Settles O2: a word on one of the lines has the number of that event's code, and the code of an event is
on the event's line. -/
theorem decoderIsTheSpecs : Obligations.DecoderIsTheSpecs := by
  refine fun w => ⟨fun h => ?nop, fun h => ?edge, fun h => ?tick, fun h => ?send, fun h => ?wr,
    fun h => ?rd, fun h => ?reset, fun ⟨hnop, hedge, htick, hsend, hwr, hrd, hreset⟩ => ?illegal⟩
  case illegal =>
    cases hd : decode w with
    | error e => exact ⟨e, rfl⟩
    | ok i =>
      have hw := encode_of_decode hd
      exfalso
      cases i with
      | nop => cases hw; exact hnop (by decide)
      | edge dir ts =>
        cases hw
        have hdir := dir.toNat_lt
        exact hedge (by simp only [bitsNat, edgeWord_toNat]; omega)
      | tick => cases hw; exact htick (by decide)
      | send => cases hw; exact hsend (by simp only [bitsNat, sendWord_toNat]; omega)
      | wr => cases hw; exact hwr (by simp only [bitsNat, writeWord_toNat]; omega)
      | rd => cases hw; exact hrd (by simp only [bitsNat, readWord_toNat]; omega)
      | reset => cases hw; exact hreset (by decide)
      | _ => cases hw
  all_goals refine decode_eq_ok_of_toNat rfl ?_
  case edge =>
    have hdir : bitsNat w 32 32 < 2 := Nat.mod_lt _ (by decide)
    rw [edgeWord_toNat, toNat_decide_eq_one hdir, BitVec.toNat_ofNat]
    simp only [bitsNat] at h ⊢
    omega
  case send =>
    simp only [bitsNat, sendWord_toNat, BitVec.toNat_ofNat] at h ⊢
    omega
  case wr =>
    simp only [bitsNat, writeWord_toNat, BitVec.toNat_ofNat] at h ⊢
    omega
  case rd =>
    simp only [bitsNat, readWord_toNat, BitVec.toNat_ofNat] at h ⊢
    omega
  all_goals
    simp only [bitsNat, tickWord, BitVec.ofNat_eq_ofNat, BitVec.toNat_ofNat] at h ⊢
    omega

/-- Settles O1. -/
theorem specWordsDecode : Obligations.SpecWordsDecode := by
  unfold Obligations.SpecWordsDecode
  decide

/-! ## The assembler -/

/-- The assembler refuses exactly the lines with an operand that does not fit its field (R96). -/
theorem assemble_eq_none_iff (l : SourceLine) : assemble l = none ↔ l.wellFormed = false := by
  unfold assemble
  cases hwf : l.wellFormed
  · simp
  · cases l <;> simp

/-- The word of a line, from its number. -/
theorem assemble_bind_encodeEvent {l : SourceLine} {i : Instr} {w : EventWord} {n : Nat}
    (hl : assemble l = some i) (hi : encode i = .event w) (hw : w.toNat = n) :
    (assemble l).bind encodeEvent = some (BitVec.ofNat 64 n) := by
  rw [hl, Option.bind_some, encodeEvent_eq_some_iff, hi, ← hw, BitVec.ofNat_toNat, BitVec.setWidth_eq]

/-- Settles O5. -/
theorem assemblerWords : Obligations.AssemblerWords := by
  refine ⟨assemble_eq_none_iff, rfl, rfl, rfl, fun rising ts hts => ?edge,
    fun code bits rep hcode hbits hrep => ?send, fun r data hr hdata => ?wr, fun r hr => ?rd⟩
  all_goals
    refine assemble_bind_encodeEvent (if_pos ?_) rfl ?_
    · simp only [SourceLine.wellFormed, decide_true, Bool.and_true, *]
  case edge => rw [edgeWord_toNat, BitVec.toNat_ofNat, Nat.mod_eq_of_lt hts]
  case send => simp only [sendWord_toNat, BitVec.toNat_ofNat, Nat.mod_eq_of_lt, hcode, hbits, hrep]
  case wr =>
    rw [writeWord_toNat, BitVec.toNat_ofNat, BitVec.toNat_ofNat, Nat.mod_eq_of_lt hr,
      Nat.mod_eq_of_lt hdata]
  case rd => rw [readWord_toNat, BitVec.toNat_ofNat, Nat.mod_eq_of_lt hr]

end Sys2Proof
end

section
/-! PROOFS. The pulses of a chain, their number and their total time (O39). -/

namespace Sys2Proof.Machine

/-- Element by element: `START`, the bits from the most significant down, `STOP` (R95). -/
theorem chainPulses_eq (code : Word) (n : Nat) (te : BitVec 18) :
    chainPulses code n te =
      [⟨false, te⟩, ⟨true, te⟩] ++
        (List.range n).flatMap (fun j =>
          [⟨!code.getLsbD (n - 1 - j), te⟩, ⟨code.getLsbD (n - 1 - j), te⟩]) ++ [⟨false, 4 * te⟩] := by
  have hbit : ∀ j ∈ List.range n, elementOf code n te (j + 1) =
      [⟨!code.getLsbD (n - 1 - j), te⟩, ⟨code.getLsbD (n - 1 - j), te⟩] := fun j hj => by
    have hj := List.mem_range.1 hj
    rw [elementOf_bit _ _ (by omega) (by omega), Nat.sub_sub, Nat.add_comm 1 j]
  rw [chainPulses, List.range_succ, List.range_succ_eq_map, List.flatMap_append, List.flatMap_cons,
    List.flatMap_map, List.flatMap_congr hbit, elementOf_start, List.flatMap_singleton, elementOf_stop]

/-- Every pulse of a chain lasts `TE` but the last, which lasts `4·TE` (R94, R95). -/
theorem chainPulses_durations (code : Word) (n : Nat) (te : BitVec 18) :
    (chainPulses code n te).map Pulse.dur = List.replicate (2 * n + 2) te ++ [4 * te] := by
  rw [chainPulses_eq, List.map_append]
  refine congrArg (· ++ [4 * te]) (List.eq_replicate_iff.2 ⟨?_, ?_⟩)
  · simp [List.length_flatMap]
    omega
  · intro d hd
    have hte : d = te ∨ (∃ j, j < n) ∧ d = te := by simpa [List.map_flatMap] using hd
    obtain h | ⟨-, h⟩ := hte <;> exact h

/-- Settles O39. -/
theorem chainOfPulses : Obligations.ChainOfPulses := by
  intro code n te
  have hte : (te.setWidth 18).toNat = te.toNat := by bv_omega
  have hstop : (4 * te.setWidth 18).toNat = 4 * te.toNat := by bv_omega
  have hdur := chainPulses_durations code n (te.setWidth 18)
  refine ⟨chainPulses_eq code n _, ?_, ?_⟩
  · simpa using congrArg List.length hdur
  · have hsum := congrArg (fun l => (l.map BitVec.toNat).sum) hdur
    simp only [List.map_map, List.map_append, List.map_replicate, List.map_singleton, List.sum_append,
      List.sum_replicate, List.sum_singleton, hte, hstop] at hsum
    refine hsum.trans ?_
    ring

end Sys2Proof.Machine
end

section
/-! PROOFS. The timing classifier: the class of a duration by the four windows' bounds (O22, O23). -/

namespace Sys2Proof.Machine

/-- A zero-extended bound has the number of the register (R122). -/
theorem toNat_setWidth_bound (b : Half) : (b.setWidth 32).toNat = b.toNat :=
  BitVec.toNat_setWidth_of_le (by decide)

/-- Settles O22: the zero-extended bounds and the duration compare as their numbers. -/
theorem classifierWindows : Obligations.ClassifierWindows := by
  intro s d
  simp only [classify, BitVec.le_def, BitVec.lt_def, toNat_setWidth_bound]

theorem classify_eq_short_iff {s : State} {d : Word} :
    classify s d = .short ↔
      s.timing.shortMin.toNat ≤ d.toNat ∧ d.toNat < s.timing.shortMax.toNat := by
  rw [classifierWindows s d]
  split_ifs <;> simp [*]

/-- A duration is `Long` exactly inside the Long window and outside the Short one (R120, R121). -/
theorem classify_eq_long_iff {s : State} {d : Word} :
    classify s d = .long ↔
      ¬ (s.timing.shortMin.toNat ≤ d.toNat ∧ d.toNat < s.timing.shortMax.toNat) ∧
        s.timing.longMin.toNat < d.toNat ∧ d.toNat < s.timing.longMax.toNat := by
  rw [classifierWindows s d]
  split_ifs <;> simp [*]

/-- Settles O23: a class bounds its duration by the 16-bit registers of one window, which leaves no
duration in an empty window and none from 65536 on in either. -/
theorem classifierCorners : Obligations.ClassifierCorners := by
  intro s d
  refine ⟨fun ⟨hmin, hmax, _⟩ => classify_eq_short_iff.2 ⟨hmin, hmax⟩,
    fun hempty hshort => ?_, fun hempty hlong => ?_, fun hd => ?_⟩
  · obtain ⟨hmin, hmax⟩ := classify_eq_short_iff.1 hshort
    omega
  · obtain ⟨-, hmin, hmax⟩ := classify_eq_long_iff.1 hlong
    omega
  · cases hc : classify s d with
    | short =>
      obtain ⟨-, hmax⟩ := classify_eq_short_iff.1 hc
      have hbound := s.timing.shortMax.isLt
      omega
    | long =>
      obtain ⟨-, -, hmax⟩ := classify_eq_long_iff.1 hc
      have hbound := s.timing.longMax.isLt
      omega
    | invalid => rfl

end Sys2Proof.Machine
end

section
/-! PROOFS. The frame decoder: the edge phases (O24 to O28), the selector actions (O29 to O31, O47), and
what each event leaves unchanged (O46). -/

namespace Sys2Proof.Machine

open Host.Outcome (next)

variable {s : State}

/-! ## An edge taken or ignored -/

/-- Settles O24. -/
theorem edgeIgnoredWhileDisabled : Obligations.EdgeIgnoredWhileDisabled := by
  intro dir ts s hoff
  rw [exec_edge, hoff]
  rfl

theorem exec_edge_enabled (dir : Level) (ts : Word) (hen : s.ctl.rxEn = true) :
    exec (.edge dir ts) s = next (takeEdge ts s) := by
  rw [exec_edge, if_pos hen]

theorem step_of_edgeWord (dir : Level) (ts : Word) (rest : List EventWord) (s : State) :
    step { s with events := edgeWord dir ts :: rest } = finish (exec (.edge dir ts) (beginStep rest s)) :=
  step_of_decode _ rfl (decode_edgeWord dir ts)

/-- Settles O25: each word decodes to an edge, whose meaning does not read the direction. -/
theorem edgeDirectionNotUsed : Obligations.EdgeDirectionNotUsed := by
  intro s dir dir' ts rest
  rw [step_of_edgeWord, step_of_edgeWord, exec_edge, exec_edge]

/-! ## The four phases -/

/-- The first edge of a frame (R143). -/
theorem takeEdge_first (ts : Word) (h : s.dec.rxEcnt.toNat = 0) :
    takeEdge ts s =
      { s with
        dec := { emptyDecoder ts with rxEcnt := 1 }
        wd := { wdArmed := true, wdCnt := s.timing.silenceUs } } := by
  simp only [takeEdge, edgePhase, h]
  rfl

/-- The second edge of a frame (R144). -/
theorem takeEdge_second (ts : Word) (h : s.dec.rxEcnt.toNat = 1) :
    takeEdge ts s =
      { s with
        dec := { s.dec with rxEcnt := 2, rxPrev := true, rxPrevTs := ts }
        wd := { wdArmed := true, wdCnt := s.timing.silenceUs } } := by
  simp only [takeEdge, edgePhase, h]
  rfl

/-- The end of a high pulse (R145). -/
theorem takeEdge_falling (ts : Word) (h : s.dec.rxEcnt.toNat = 2) :
    takeEdge ts s =
      { s with
        dec := { s.dec with rxEcnt := 3, rxPendHigh := ts - s.dec.rxPrevTs, rxPrevTs := ts }
        wd := { wdArmed := true, wdCnt := s.timing.silenceUs } } := by
  simp only [takeEdge, edgePhase, h]
  rfl

/-- The end of a low pulse (R146). -/
theorem takeEdge_rising (ts : Word) (h : s.dec.rxEcnt.toNat = 3) :
    takeEdge ts s =
      armWatchdog (setEcnt 2 (bitDecode s.dec.rxPendHigh (ts - s.dec.rxPrevTs)
        { s with dec := { s.dec with rxPrevTs := ts } })) := by
  simp only [takeEdge, edgePhase, h]

/-- Settles O26. -/
theorem startEdges : Obligations.StartEdges := by
  intro dir ts s hen
  rw [exec_edge_enabled dir ts hen]
  exact ⟨fun h => congrArg next (takeEdge_first ts h), fun h => congrArg next (takeEdge_second ts h)⟩

/-- The elapsed time is the difference of the timestamps modulo 2^32 (R141). -/
theorem elapsed_eq_ofNat (now prev : Word) :
    now - prev = BitVec.ofNat 32 ((now.toNat + 2 ^ 32 - prev.toNat) % 2 ^ 32) := by
  bv_omega

/-- Settles O27. -/
theorem fallingEdgeRecordsHigh : Obligations.FallingEdgeRecordsHigh := by
  intro dir ts s hen h
  rw [exec_edge_enabled dir ts hen, takeEdge_falling ts h, elapsed_eq_ofNat]

/-- The selector is the number of its three bits (R92). -/
theorem selector_eq_ofNat (prev : Bool) (low high : PulseClass) :
    selector prev low high =
      BitVec.ofNat 3 (4 * prev.toNat + 2 * (decide (low = .long)).toNat + (decide (high = .long)).toNat) := by
  cases prev <;> cases low <;> cases high <;> rfl

/-- Settles O28: `BITDECODE` notes the `Invalid` classes and then performs the selector's row. -/
theorem risingEdgeRunsTheSelector : Obligations.RisingEdgeRunsTheSelector := by
  intro dir ts s hen h
  refine ⟨_, exec_decodeSelector _ _, ?_⟩
  rw [exec_edge_enabled dir ts hen, takeEdge_rising ts h, bitDecode, noteInvalid_eq, selector_eq_ofNat,
    armWatchdog]
  simp only [setEcnt_timing, selectorAction_timing]
  rfl

/-! ## The selector actions -/

/-- `EMIT(b)` doubles the shift register and adds the bit, modulo 2^32 (R148). -/
theorem shiftIn_eq_ofNat (sr : Word) (b : Bool) :
    (sr <<< 1) ||| (BitVec.ofBool b).setWidth 32 = BitVec.ofNat 32 ((2 * sr.toNat + b.toNat) % 2 ^ 32) := by
  have hdisjoint : (sr <<< 1) &&& (BitVec.ofBool b).setWidth 32 = 0 := by
    ext i hi
    cases i <;> simp
  rw [← BitVec.add_eq_or_of_and_eq_zero _ _ hdisjoint]
  refine BitVec.eq_of_toNat_eq ?_
  cases b <;> simp [Nat.shiftLeft_eq, Nat.mul_comm]

theorem emit_eq (b : Bool) (s : State) :
    emit b s =
      { s with dec :=
        { s.dec with rxSr := BitVec.ofNat 32 ((2 * s.dec.rxSr.toNat + b.toNat) % 2 ^ 32) } } := by
  rw [emit, shiftIn_eq_ofNat]

/-- The bits 0 and then 1 make the shift register four times itself plus 1. -/
theorem emit_false_true_eq (s : State) :
    emit true (emit false s) =
      { s with dec :=
        { s.dec with rxSr := BitVec.ofNat 32 ((4 * s.dec.rxSr.toNat + 1) % 2 ^ 32) } } := by
  have hsr : (2 * (BitVec.ofNat 32 ((2 * s.dec.rxSr.toNat + false.toNat) % 2 ^ 32)).toNat + true.toNat)
      % 2 ^ 32 = (4 * s.dec.rxSr.toNat + 1) % 2 ^ 32 := by
    simp only [BitVec.toNat_ofNat, Bool.toNat_false, Bool.toNat_true]
    omega
  rw [emit_eq false, emit_eq true, hsr]

/-- Settles O29. -/
theorem selectorsEmittingOneBit : Obligations.SelectorsEmittingOneBit := by
  refine ⟨rfl, rfl, rfl, fun s => ⟨?_, ?_, ?_⟩⟩
  · exact congrArg (fun u => next (setPrev false u)) (emit_eq false s)
  · exact congrArg (fun u => next (setPrev true u)) (emit_eq true s)
  · exact congrArg (fun u => next (setPrev false u)) (emit_eq false s)

/-- Settles O30. -/
theorem selectorsEmittingTwoBits : Obligations.SelectorsEmittingTwoBits := by
  refine ⟨rfl, rfl, fun s => ⟨?_, ?_⟩⟩ <;>
    exact congrArg (fun u => next (setPrev true u)) (emit_false_true_eq s)

/-- Settles O31: each of the three rows raises `PROTOCOL`, which sets `RX_ERR` (R261). -/
theorem protocolErrorSelectors : Obligations.ProtocolErrorSelectors :=
  ⟨rfl, rfl, rfl, fun _ => ⟨rfl, rfl, rfl⟩⟩

/-- An instruction that no event word stands for is a row of the selector table (R92, R93). -/
theorem exists_decodeSelector_of_not_wellFormed {i : Instr} (h : i.wellFormed = false) :
    ∃ sel, i = decodeSelector sel := by
  cases i with
  | dec0 => exact ⟨0, rfl⟩
  | dec1 => exact ⟨1, rfl⟩
  | dec2 => exact ⟨2, rfl⟩
  | dec3 => exact ⟨3, rfl⟩
  | dec4 => exact ⟨4, rfl⟩
  | dec5 => exact ⟨5, rfl⟩
  | dec6 => exact ⟨6, rfl⟩
  | dec7 => exact ⟨7, rfl⟩
  | nop | edge | tick | send | wr | rd | reset => cases h

/-- Settles O47. -/
theorem framesOfSelectors : Obligations.FramesOfSelectors := by
  intro i s t hi h
  obtain ⟨sel, rfl⟩ := exists_decodeSelector_of_not_wellFormed hi
  cases (exec_decodeSelector s sel).symm.trans h
  exact selectorAction_frame s sel

/-! ## What each event leaves unchanged -/

variable {t : State}

theorem edge_frame {dir : Level} {ts : Word} (h : exec (.edge dir ts) s = next t) :
    t = { s with dec := t.dec, wd := t.wd } := by
  cases (exec_edge s dir ts).symm.trans h
  split
  · rw [takeEdge_frame]
  · rfl

theorem send_frame {code : Word} {bits : BitVec 6} {rep : Half}
    (h : exec (.send code bits rep) s = next t) :
    t = { s with tx := t.tx, err := { t.err with evIll := s.err.evIll } } := by
  obtain ⟨c, -, hs⟩ | ⟨-, -, -, -, -, -, hs⟩ := exec_send_cases s code bits rep <;>
    · cases hs.symm.trans h
      rfl

theorem read_frame {a : Addr} (h : exec (.rd a) s = next t) :
    t = { s with
      out := { s.out with rdataValid := true, rdata := t.out.rdata }
      latch := { s.latch with rxPend := t.latch.rxPend } } := by
  cases h
  rw [readEffect_eq]
  split <;> rfl

@[simp] theorem writeCtrl_out (data : Word) (s : State) : (writeCtrl data s).out = s.out := by
  rw [writeCtrl_frame]

/-- A write to `CTRL` empties the decoder at most, which keeps the timestamp of the last edge (R160). -/
@[simp] theorem writeCtrl_rxPrevTs (data : Word) (s : State) :
    (writeCtrl data s).dec.rxPrevTs = s.dec.rxPrevTs := by
  obtain ⟨-, -, h⟩ | ⟨-, -, h⟩ | ⟨-, h⟩ := writeCtrl_cases s data <;> rw [h] <;> rfl

theorem writeReg_frame (a : Addr) (data : Word) (s : State) :
    (writeReg a data s).tx = s.tx ∧ (writeReg a data s).out = s.out ∧
      (writeReg a data s).events = s.events ∧ (writeReg a data s).params = s.params ∧
      (writeReg a data s).dec.rxPrevTs = s.dec.rxPrevTs ∧
      (writeReg a data s).latch = { s.latch with rxOvr := (writeReg a data s).latch.rxOvr } := by
  obtain ⟨-, h⟩ | ⟨-, h⟩ | ⟨-, -, g, h⟩ | h := writeReg_cases s a data <;> rw [h]
  · simp
  · exact ⟨rfl, rfl, rfl, rfl, rfl, rfl⟩
  · exact ⟨rfl, rfl, rfl, rfl, rfl, rfl⟩
  · exact ⟨rfl, rfl, rfl, rfl, rfl, rfl⟩

theorem tick_frame (h : exec .tick s = next t) :
    t = { s with
      wd := t.wd, latch := t.latch, tx := t.tx
      dec := { t.dec with rxPrevTs := s.dec.rxPrevTs }
      out :=
        { t.out with rdataValid := s.out.rdataValid, rdata := s.out.rdata, txLine := s.out.txLine } } := by
  cases (exec_tick s).symm.trans h
  rw [wdTick_frame]

/-- Settles O46, one event at a time. -/
theorem framesOfEvents : Obligations.FramesOfEvents := fun s _ =>
  ⟨fun _ _ => edge_frame, fun _ _ _ => send_frame, fun _ => read_frame,
    fun a data h => by cases h; exact writeReg_frame a data s, tick_frame⟩

end Sys2Proof.Machine
end

section
/-! PROOFS. The silence watchdog: what one `TICK` does to the timer (O33 to O35), and the `N` `TICK`s after
it was armed with `N` (O36). -/

namespace Sys2Proof.Machine

open Host.Outcome (next)

/-! ## One `TICK` -/

section

variable {s : State}

theorem wdTick_of_expiresNext (h : expiresNext s) : wdTick s = expire s := by
  obtain ⟨ha, -⟩ | ⟨-, -, hw⟩ | ⟨-, hc, -⟩ := wdTick_cases s
  · exact absurd (h.1.symm.trans ha) (by decide)
  · exact hw
  · exact absurd h.2 (by omega)

theorem wdTick_of_not_expiresNext (h : ¬ expiresNext s) :
    wdTick s = { s with
      wd := if s.wd.wdArmed = true then { s.wd with wdCnt := s.wd.wdCnt - 1 } else s.wd } := by
  obtain ⟨ha, hw⟩ | ⟨ha, hc, -⟩ | ⟨ha, -, hw⟩ := wdTick_cases s
  · rw [hw, if_neg (by simp [ha])]
  · exact absurd ⟨ha, hc⟩ h
  · rw [hw, if_pos ha]

/-- Settles O33. -/
theorem tickCountsTheSilence : Obligations.TickCountsTheSilence := by
  intro s h
  rw [exec_tick, wdTick_of_not_expiresNext h]

/-- Settles O34. -/
theorem expiryDelivers : Obligations.ExpiryDelivers := by
  intro s hx hd
  rw [exec_tick, wdTick_of_expiresNext hx, expire_eq, if_neg hd, deliver_eq]
  rfl

/-- Settles O35. -/
theorem abortDiscardsTheFrame : Obligations.AbortDiscardsTheFrame := by
  intro s hx hd
  rw [exec_tick, wdTick_of_expiresNext hx, expire_eq, if_pos hd]
  rfl

end

/-! ## The `TICK`s after the timer was armed -/

/-- One more step at the end of a run. -/
theorem steps_succ_of_steps {k : Nat} {s t : State} (h : steps k s = next t) : steps (k + 1) s = step t := by
  induction k generalizing s with
  | zero =>
    cases h
    cases hs : step t <;> simp [steps, hs]
  | succ k ih =>
    rw [steps] at h ⊢
    cases hs : step s with
    | next u =>
      rw [hs] at h
      exact ih h
    | fault f => simp [hs] at h
    | refused r => simp [hs] at h

/-- `t` waits for the end of the frame that `s` holds: `m` `TICK`s are left on the timer, they are the next
words, and the decoder, the latch and the control register are as in `s`. -/
structure Awaiting (s : State) (rest : List EventWord) (m : Nat) (t : State) : Prop where
  armed : t.wd.wdArmed = true
  count : t.wd.wdCnt.toNat = m
  pending : t.events = ticks m ++ rest
  dec : t.dec = s.dec
  latch : t.latch = s.latch
  ctl : t.ctl = s.ctl

section

variable {s t : State} {rest : List EventWord}

/-- A `TICK` before the last counts down and delivers nothing (R182). -/
theorem step_of_awaiting {m : Nat} (hm : 1 ≤ m) (h : Awaiting s rest (m + 1) t) :
    ∃ u, step t = next u ∧ u.out.frameValid = false ∧ Awaiting s rest m u := by
  have hcount := h.count
  have harmed : (beginStep (ticks m ++ rest) t).wd.wdArmed = true := h.armed
  have hx : ¬ expiresNext (beginStep (ticks m ++ rest) t) := fun hx => by
    have hle : t.wd.wdCnt.toNat ≤ 1 := hx.2
    omega
  have hcnt : (t.wd.wdCnt - 1).toNat = m := by bv_omega
  refine ⟨_, step_tickWord (rest := ticks m ++ rest) h.pending, ?_, ?_⟩
  · simp [wdTick_out, hx, noOutputs]
  · rw [wdTick_of_not_expiresNext hx, if_pos harmed]
    exact ⟨h.armed, hcnt, rfl, h.dec, h.latch, h.ctl⟩

/-- The last `TICK` delivers the frame and disarms the timer (R184, R185). -/
theorem step_of_awaiting_one (hd : ¬ discards s) (h : Awaiting s rest 1 t) :
    ∃ u, step t = next u ∧ u.out.frameValid = true ∧ u.out.frameValue = s.dec.rxSr ∧
      u.out.frameErr = s.dec.rxErr ∧ u.wd.wdArmed = false ∧ u.events = rest := by
  have hx : expiresNext (beginStep rest t) := ⟨h.armed, Nat.le_of_eq h.count⟩
  have hd' : ¬ discards (beginStep rest t) := by
    show ¬ (t.ctl.abortOnErr = true ∧ t.dec.rxErr = true)
    rwa [h.ctl, h.dec]
  have hout : (wdTick (beginStep rest t)).out = _ := wdTick_out.trans (if_pos ⟨hx, hd'⟩)
  have hwd : (wdTick (beginStep rest t)).wd = ⟨false, 0⟩ := by rw [wdTick_of_expiresNext hx, expire_wd]
  refine ⟨_, step_tickWord h.pending, ?_⟩
  simp [hout, hwd, h.dec]

/-- Before the last `TICK` the block still waits, and no `TICK` so far has delivered. -/
theorem steps_of_awaiting {n k : Nat} (h : Awaiting s rest n s) (hk : k < n) :
    ∃ t, steps k s = next t ∧ (1 ≤ k → t.out.frameValid = false) ∧ Awaiting s rest (n - k) t := by
  induction k with
  | zero => exact ⟨s, rfl, fun h0 => absurd h0 (by decide), h⟩
  | succ k ih =>
    obtain ⟨t, hsteps, -, ht⟩ := ih (by omega)
    rw [show n - k = n - (k + 1) + 1 by omega] at ht
    obtain ⟨u, hstep, hout, hu⟩ := step_of_awaiting (by omega) ht
    exact ⟨u, (steps_succ_of_steps hsteps).trans hstep, fun _ => hout, hu⟩

end

/-- Settles O36, by induction over the `TICK`s before the last: the block waits until the last one comes. -/
theorem silenceDeliversExactlyOneFrame : Obligations.SilenceDeliversExactlyOneFrame := by
  intro s n rest harmed hcount hn hd hevents
  have h : Awaiting s rest n s := ⟨harmed, hcount, hevents, rfl, rfl, rfl⟩
  refine ⟨fun k h1 hk => ?_, ?_⟩
  · obtain ⟨t, hsteps, hout, ht⟩ := steps_of_awaiting h hk
    exact ⟨t, hsteps, hout h1, ht.dec, ht.latch, ht.count⟩
  · obtain ⟨m, rfl⟩ := Nat.exists_eq_add_of_le' hn
    obtain ⟨t, hsteps, -, ht⟩ := steps_of_awaiting h (Nat.lt_succ_self m)
    rw [Nat.add_sub_cancel_left] at ht
    rw [steps_succ_of_steps hsteps]
    exact step_of_awaiting_one hd ht

end Sys2Proof.Machine
end

section
/-! PROOFS. `SEND` (O38), and the sequencer's part of one `TICK` (O40 to O42). -/

namespace Sys2Proof.Machine

open Host.Outcome (next)

variable {s : State}

/-! ## `SEND` -/

/-- The cause that rejects a `SEND`, the first that holds (R201, R270); none when its chain is captured. -/
def sendCause (bits : BitVec 6) (rep : Half) (s : State) : Option (BitVec 3) :=
  if s.ctl.txEn = false then some 3
  else if s.tx.txBusy = true then some 2
  else if bits.toNat < 1 ∨ 32 < bits.toNat ∨ rep.toNat < 1 ∨ s.timing.teUs.toNat = 0 then some 1
  else none

/-- A `SEND` is rejected with its cause, or its chain is captured. -/
theorem exec_send (code : Word) (bits : BitVec 6) (rep : Half) (s : State) :
    exec (.send code bits rep) s =
      next ((sendCause bits rep s).elim (accept code bits rep s) (rejectSend · s)) := by
  have hbad : (bits < 1 ∨ 32 < bits ∨ rep < 1 ∨ s.timing.teUs = 0) ↔
      (bits.toNat < 1 ∨ 32 < bits.toNat ∨ rep.toNat < 1 ∨ s.timing.teUs.toNat = 0) := by bv_omega
  simp only [exec, execSend, sendCause, hbad]
  split
  · rfl
  · split
    · rfl
    · split <;> rfl

/-- A chain is captured exactly when none of R201's conditions rejects it. -/
theorem sendCause_eq_none_iff {bits : BitVec 6} {rep : Half} :
    sendCause bits rep s = none ↔
      s.ctl.txEn = true ∧ s.tx.txBusy = false ∧ 1 ≤ bits.toNat ∧ bits.toNat ≤ 32 ∧ 1 ≤ rep.toNat ∧
        s.timing.teUs.toNat ≠ 0 := by
  unfold sendCause
  split
  next hen => simp [hen]
  next hen =>
    split
    next hbusy => simp [hbusy]
    next hbusy =>
      split
      next hbad =>
        refine ⟨nofun, fun ⟨_, _, h1, h32, hrep, hte⟩ => ?_⟩
        omega
      next hok => exact ⟨fun _ => ⟨by simpa using hen, by simpa using hbusy, by omega⟩, fun _ => rfl⟩

/-- A 16-bit duration at the width of `TX_REM`. -/
theorem setWidth_eq_ofNat (te : Half) : te.setWidth 18 = BitVec.ofNat 18 te.toNat := by
  bv_omega

/-- Settles O38. -/
theorem sendRejectsOrAccepts : Obligations.SendRejectsOrAccepts := by
  intro code bits rep s
  simp only [exec_send]
  refine ⟨fun hen => ?_, fun ⟨hen, hbusy⟩ => ?_, fun ⟨hen, hidle, hbad⟩ => ?_,
    fun hok => ?_⟩
  · rw [sendCause, if_pos hen]
    rfl
  · rw [sendCause, if_neg (by simp [hen]), if_pos hbusy]
    rfl
  · rw [sendCause, if_neg (by simp [hen]), if_neg (by simp [hidle]), if_pos hbad]
    rfl
  · rw [sendCause_eq_none_iff.2 hok, ← setWidth_eq_ofNat]
    rfl

/-! ## One `TICK` -/

theorem txTick_of_idle (hb : s.tx.txBusy = false) : txTick s = s := by
  simpa [hb] using txTick_cases s

theorem txTick_inside_pulse (hb : s.tx.txBusy = true) (h1 : s.tx.txRem ≠ 1) :
    txTick s = { s with tx := { s.tx with txRem := s.tx.txRem - 1 } } := by
  obtain ⟨hn, -⟩ | ⟨-, -, ht⟩ | ⟨-, hn, -⟩ := txTick_cases s
  · exact absurd (hb.symm.trans hn) (by decide)
  · exact ht
  · exact absurd hn h1

theorem txTick_at_pulse_end (hb : s.tx.txBusy = true) (h1 : s.tx.txRem = 1) : txTick s = advance s := by
  simpa [hb, h1] using txTick_cases s

/-- Settles O40. -/
theorem tickCountsThePulse : Obligations.TickCountsThePulse := by
  intro s
  refine ⟨fun hb => ?_, fun ⟨hb, h1⟩ => ?_⟩
  · rw [exec_tick, txTick_of_idle hb, ← wdTick_tx s]
  · rw [exec_tick, txTick_inside_pulse hb h1]

/-- `4·TE` does not wrap in 18 bits. -/
theorem four_mul_setWidth_eq_ofNat (te : Half) : 4 * te.setWidth 18 = BitVec.ofNat 18 (4 * te.toNat) := by
  bv_omega

/-- The second pulse of `START` is high, that of a bit has the bit's value (R200). -/
theorem pulse_second {e : Nat} (he : e ≤ s.tx.txNbits.toNat) :
    pulse s e 1 =
      ⟨decide (e = 0) || s.tx.txCode.getLsbD (s.tx.txNbits.toNat - e), s.tx.txTe.setWidth 18⟩ := by
  by_cases h0 : e = 0
  · rw [h0, pulse_start 1 (le_refl 1)]
    rfl
  · rw [pulse_bit 1 (le_refl 1) h0 he]
    simp [h0]

/-- Settles O41. -/
theorem pulseEndsInsideTheChain : Obligations.PulseEndsInsideTheChain := by
  intro s hb h1 he
  have hzero : decide (s.tx.txElem = 0) = decide (s.tx.txElem.toNat = 0) := by
    congr 1
    exact propext (by bv_omega)
  have hnext : BitVec.ofNat 6 (s.tx.txElem.toNat + 1) = s.tx.txElem + 1 := by bv_omega
  rw [exec_tick, txTick_at_pulse_end hb h1, ← setWidth_eq_ofNat, ← four_mul_setWidth_eq_ofNat]
  refine ⟨fun hh => ?_, fun ⟨hh, hlt⟩ => ?_, fun ⟨hh, heq⟩ => ?_⟩
  · rw [advance_first hh he, startPulse_tx, pulse_second he, hzero]
    simp
  · rw [advance_second hh he, startPulse_tx, pulse_bit 0 (by omega) (by omega) (by omega), hnext,
      Nat.sub_sub, Nat.add_comm 1]
    simp
  · rw [advance_second hh he, startPulse_tx, heq, pulse_stop, ← heq, hnext]
    simp

/-- Settles O42. -/
theorem stopEndsThePlay : Obligations.StopEndsThePlay := by
  intro s hb h1 hh he
  rw [exec_tick, txTick_at_pulse_end hb h1, ← setWidth_eq_ofNat]
  refine ⟨fun hrep => ?_, fun hrep => ?_⟩
  · rw [advance_repeat hh he hrep, startPulse_tx, pulse_start 0 (by omega)]
    rfl
  · rw [advance_complete hh he hrep, complete_tx]

end Sys2Proof.Machine
end

section
/-! PROOFS. An accepted chain plays its pulses for exactly its total time (O43): the pulses still to be
driven are a list, and a `TICK` takes 1 µs off its front. -/

namespace Sys2Proof.Machine

open Host.Outcome (next)

/-! ## Pulses laid end to end -/

/-- How long pulses laid end to end last, µs. -/
def duration (ps : List Pulse) : Nat := (ps.map (·.dur.toNat)).sum

/-- No pulse is empty. -/
def NonzeroPulses (ps : List Pulse) : Prop := ∀ p ∈ ps, p.dur.toNat ≠ 0

/-- The pulses that are left 1 µs later. -/
def elapse : List Pulse → List Pulse
  | [] => []
  | p :: ps => if p.dur = 1 then ps else ⟨p.level, p.dur - 1⟩ :: ps

@[simp] theorem duration_nil : duration [] = 0 := rfl

@[simp] theorem duration_cons (p : Pulse) (ps : List Pulse) :
    duration (p :: ps) = p.dur.toNat + duration ps := by
  simp [duration]

@[simp] theorem duration_append (ps qs : List Pulse) : duration (ps ++ qs) = duration ps + duration qs := by
  simp [duration]

theorem duration_flatten_replicate (r : Nat) (ps : List Pulse) :
    duration (List.replicate r ps).flatten = r * duration ps := by
  induction r with
  | zero => simp
  | succ r ih => rw [List.replicate_succ, List.flatten_cons, duration_append, ih, Nat.succ_mul, Nat.add_comm]

theorem levelAt_append (ps qs : List Pulse) (k : Nat) :
    levelAt (ps ++ qs) k = if k < duration ps then levelAt ps k else levelAt qs (k - duration ps) := by
  induction ps generalizing k with
  | nil => simp
  | cons p ps ih =>
    by_cases h : k < p.dur.toNat
    · simp [levelAt, h, show k < p.dur.toNat + duration ps by omega]
    · have hsub : k - p.dur.toNat < duration ps ↔ k < p.dur.toNat + duration ps := by omega
      simp [levelAt, h, ih, hsub, Nat.sub_sub]

/-- Plays follow each other without a gap, so the level repeats with the period of one play (R209). -/
theorem levelAt_flatten_replicate (ps : List Pulse) {r k : Nat} (hk : k < r * duration ps) :
    levelAt (List.replicate r ps).flatten k = levelAt ps (k % duration ps) := by
  induction r generalizing k with
  | zero => simp at hk
  | succ r ih =>
    rw [List.replicate_succ, List.flatten_cons, levelAt_append]
    split
    next h => rw [Nat.mod_eq_of_lt h]
    next h =>
      rw [Nat.succ_mul] at hk
      rw [ih (by omega), ← Nat.mod_eq_sub_mod (Nat.le_of_not_lt h)]

theorem nonzeroPulses_elapse {ps : List Pulse} (h : NonzeroPulses ps) : NonzeroPulses (elapse ps) := by
  cases ps with
  | nil => exact h
  | cons p ps =>
    obtain ⟨hp, hps⟩ := List.forall_mem_cons.1 h
    rw [elapse]
    split
    next => exact hps
    next h1 =>
      have hdec : (p.dur - 1).toNat ≠ 0 := by bv_omega
      exact List.forall_mem_cons.2 ⟨hdec, hps⟩

theorem duration_elapse {ps : List Pulse} (h : NonzeroPulses ps) : duration (elapse ps) = duration ps - 1 := by
  cases ps with
  | nil => rfl
  | cons p ps =>
    have hp := h p List.mem_cons_self
    rw [elapse]
    split
    next h1 => simp [h1]
    next h1 =>
      have hdec : (p.dur - 1).toNat = p.dur.toNat - 1 := by bv_omega
      simp only [duration_cons, hdec]
      omega

theorem levelAt_elapse {ps : List Pulse} (h : NonzeroPulses ps) (k : Nat) :
    levelAt (elapse ps) k = levelAt ps (k + 1) := by
  cases ps with
  | nil => rfl
  | cons p ps =>
    have hp := h p List.mem_cons_self
    rw [elapse]
    split
    next h1 => simp [levelAt, h1]
    next h1 =>
      have hdec : (p.dur - 1).toNat = p.dur.toNat - 1 := by bv_omega
      have hlt : k < p.dur.toNat - 1 ↔ k + 1 < p.dur.toNat := by omega
      have hsub : k - (p.dur.toNat - 1) = k + 1 - p.dur.toNat := by omega
      simp only [levelAt, hdec, hlt, hsub]

theorem nonzeroPulses_iterate_elapse {ps : List Pulse} (h : NonzeroPulses ps) (k : Nat) :
    NonzeroPulses (elapse^[k] ps) :=
  Function.Iterate.rec NonzeroPulses h (fun _ => nonzeroPulses_elapse) k

theorem duration_iterate_elapse {ps : List Pulse} (h : NonzeroPulses ps) (k : Nat) :
    duration (elapse^[k] ps) = duration ps - k := by
  induction k generalizing ps with
  | zero => rfl
  | succ k ih =>
    rw [Function.iterate_succ_apply, ih (nonzeroPulses_elapse h), duration_elapse h, Nat.sub_sub, Nat.add_comm]

theorem levelAt_iterate_elapse {ps : List Pulse} (h : NonzeroPulses ps) (k : Nat) :
    levelAt (elapse^[k] ps) 0 = levelAt ps k := by
  suffices ∀ j, levelAt (elapse^[k] ps) j = levelAt ps (j + k) by simpa using this 0
  induction k generalizing ps with
  | zero => exact fun _ => rfl
  | succ k ih =>
    intro j
    rw [Function.iterate_succ_apply, ih (nonzeroPulses_elapse h), levelAt_elapse h, Nat.add_assoc]

/-! ## The pulses a state still has to drive -/

/-- The pulses of one play of the chain in flight from pulse `i` of element `e` on (R203). -/
def pulsesFrom (s : State) (e i : Nat) : List Pulse :=
  (element s e).drop i ++ (List.range' (e + 1) (s.tx.txNbits.toNat + 1 - e)).flatMap (element s)

/-- The pulses of every play after the one in progress. -/
def laterPlays (s : State) : List Pulse :=
  (List.replicate (s.tx.txRep.toNat - 1) (pulsesFrom s 0 0)).flatten

/-- What the line still has to be driven with: what is left of the pulse playing, of its play, and of the
plays after it; nothing when no chain plays. -/
def upcoming (s : State) : List Pulse :=
  if s.tx.txBusy = true then
    ⟨s.tx.txLine, s.tx.txRem⟩ :: pulsesFrom s s.tx.txElem.toNat (s.tx.txHalf.toNat + 1) ++ laterPlays s
  else []

section

variable {s t : State}

theorem upcoming_of_busy (hb : s.tx.txBusy = true) :
    upcoming s =
      ⟨s.tx.txLine, s.tx.txRem⟩ :: (pulsesFrom s s.tx.txElem.toNat (s.tx.txHalf.toNat + 1) ++ laterPlays s) :=
  if_pos hb

theorem upcoming_of_idle (hb : s.tx.txBusy = false) : upcoming s = [] :=
  if_neg (by simp [hb])

/-- From the first pulse of `START` on, a play is its whole chain (R95). -/
theorem pulsesFrom_start (s : State) :
    pulsesFrom s 0 0 = chainPulses s.tx.txCode s.tx.txNbits.toNat (s.tx.txTe.setWidth 18) := by
  rw [chainPulses, List.range_eq_range', List.range'_succ, List.flatMap_cons]
  rfl

theorem pulsesFrom_eq_cons {e i : Nat} (h : HasPulse s e i) :
    pulsesFrom s e i = pulse s e i :: pulsesFrom s e (i + 1) := by
  obtain ⟨hi, -, hstop⟩ := h
  have hlt : i < (element s e).length := by
    rw [element_length]
    split
    next h => rw [hstop h]; decide
    next => omega
  rw [pulsesFrom, List.drop_eq_getElem_cons hlt, pulse, List.getD_eq_getElem _ _ hlt]
  rfl

/-- After both pulses of `START` or of a bit comes the next element (R206). -/
theorem pulsesFrom_next {e : Nat} (he : e ≤ s.tx.txNbits.toNat) :
    pulsesFrom s e 2 = pulsesFrom s (e + 1) 0 := by
  have hlen : (element s e).length ≤ 2 := by
    rw [element_length]
    split <;> decide
  have hrange : s.tx.txNbits.toNat + 1 - e = s.tx.txNbits.toNat + 1 - (e + 1) + 1 := by omega
  rw [pulsesFrom, List.drop_eq_nil_of_le hlen, hrange, List.range'_succ]
  rfl

/-- Nothing of a play is left after its `STOP` (R208). -/
theorem pulsesFrom_end (s : State) : pulsesFrom s (s.tx.txNbits.toNat + 1) 1 = [] := by
  simp [pulsesFrom, element, elementOf_stop]

/-- A chain that begins a pulse it has drives that pulse and what follows it. -/
theorem upcoming_startPulse {e i : Nat} (hc : PlayableChain s) (hp : HasPulse s e i) :
    upcoming (startPulse e i s) = pulsesFrom s e i ++ laterPlays s := by
  obtain ⟨hb, -, h32, -, -⟩ := hc
  have ⟨hi, he, _⟩ := hp
  have hpos : (BitVec.ofNat 6 e).toNat = e := by rw [BitVec.toNat_ofNat]; omega
  have hhalf : (decide (i ≠ 0)).toNat = i := by interval_cases i <;> rfl
  have hbusy : (startPulse e i s).tx.txBusy = true := hb
  rw [pulsesFrom_eq_cons hp, upcoming_of_busy hbusy]
  simp only [startPulse_tx, hpos, hhalf]
  rfl

/-- While more than one play is left, the next one is the chain from its start. -/
theorem laterPlays_succ (hrep : 1 < s.tx.txRep.toNat) :
    pulsesFrom s 0 0 ++ laterPlays { s with tx := { s.tx with txRep := s.tx.txRep - 1 } } = laterPlays s := by
  have hpred : (s.tx.txRep - 1).toNat = s.tx.txRep.toNat - 1 := by bv_omega
  have hsucc : s.tx.txRep.toNat - 1 = s.tx.txRep.toNat - 1 - 1 + 1 := by omega
  conv_rhs => rw [laterPlays, hsucc, List.replicate_succ, List.flatten_cons]
  simp only [laterPlays, hpred]
  rfl

/-- What follows the end of a pulse is the next pulse to be driven, in this play or in the next one, or
completion when there is none (R205 to R208). -/
theorem upcoming_advance (hb : s.tx.txBusy = true) (h : BusyInv s) :
    upcoming (advance s) = (upcoming s).tail := by
  obtain ⟨h1, h32, ht, hr, he, hstop, -, -, -⟩ := h
  have hc : PlayableChain s := ⟨hb, h1, h32, ht, hr⟩
  rw [upcoming_of_busy hb, List.tail_cons]
  by_cases hlast : s.tx.txElem.toNat = s.tx.txNbits.toNat + 1
  · rw [hstop hlast, hlast, Bool.toNat_false, pulsesFrom_end, List.nil_append]
    by_cases hrep : 1 < s.tx.txRep.toNat
    · rw [advance_repeat (hstop hlast) hlast hrep, upcoming_startPulse, ← laterPlays_succ hrep]
      · rfl
      · have hleft : s.tx.txRep - 1 ≠ 0 := by bv_omega
        exact ⟨hb, h1, h32, ht, hleft⟩
      · exact ⟨by omega, by omega, fun _ => rfl⟩
    · rw [advance_complete (hstop hlast) hlast (by omega), laterPlays,
        show s.tx.txRep.toNat - 1 = 0 by omega]
      rfl
  · cases hh : s.tx.txHalf with
    | false =>
      rw [advance_first hh (by omega)]
      exact upcoming_startPulse hc ⟨by omega, he, fun h => absurd h hlast⟩
    | true =>
      rw [advance_second hh (by omega), Bool.toNat_true, pulsesFrom_next (by omega)]
      exact upcoming_startPulse hc ⟨by omega, by omega, fun _ => rfl⟩

/-- The sequencer's part of a `TICK` takes 1 µs off the pulses still to be driven (R204). -/
theorem upcoming_txTick (h : SequencerInv s) : upcoming (txTick s) = elapse (upcoming s) := by
  cases hb : s.tx.txBusy with
  | false =>
    rw [txTick_of_idle hb, upcoming_of_idle hb, elapse]
  | true =>
    by_cases h1 : s.tx.txRem = 1
    · rw [txTick_at_pulse_end hb h1, upcoming_advance hb (h.1 hb), upcoming_of_busy hb, elapse, if_pos h1,
        List.tail_cons]
    · rw [txTick_inside_pulse hb h1, upcoming_of_busy hb, elapse, if_neg h1]
      exact upcoming_of_busy hb

/-- While pulses are left the chain plays, and the line has the level of the first of them. -/
theorem playing_of_duration_upcoming_pos (h : SequencerInv s) (hpos : 0 < duration (upcoming s)) :
    s.tx.txBusy = true ∧ s.tx.txLine = levelAt (upcoming s) 0 := by
  cases hb : s.tx.txBusy with
  | false => simp [upcoming_of_idle hb] at hpos
  | true =>
    obtain ⟨-, -, -, -, -, -, h0, -, -⟩ := h.1 hb
    have hrem : 0 < s.tx.txRem.toNat := by bv_omega
    exact ⟨rfl, by simp [upcoming_of_busy hb, levelAt, hrem]⟩

/-- With no time left the chain is complete, and the line is idle. -/
theorem idle_of_duration_upcoming_zero (h : SequencerInv s) (hzero : duration (upcoming s) = 0) :
    s.tx.txBusy = false ∧ s.tx.txLine = s.params.txIdleLevel := by
  cases hb : s.tx.txBusy with
  | false =>
    obtain ⟨-, -, -, -, hline⟩ := h.2 hb
    exact ⟨rfl, hline⟩
  | true =>
    obtain ⟨-, -, -, -, -, -, h0, -, -⟩ := h.1 hb
    have hrem : 0 < s.tx.txRem.toNat := by bv_omega
    simp only [upcoming_of_busy hb, duration_cons] at hzero
    omega

/-! ## A run of `TICK`s -/

/-- The run keeps the sequencer's invariant and the line output, and takes 1 µs off per `TICK`. -/
theorem steps_ticks_elapse (k : Nat) (rest : List EventWord) (hinv : SequencerInv s)
    (hout : s.out.txLine = s.tx.txLine) (hevents : s.events = ticks k ++ rest) :
    ∃ t, steps k s = next t ∧ SequencerInv t ∧ t.out.txLine = t.tx.txLine ∧ t.params = s.params ∧
      upcoming t = elapse^[k] (upcoming s) := by
  induction k generalizing s with
  | zero => exact ⟨s, rfl, hinv, hout, rfl, rfl⟩
  | succ k ih =>
    let u := beginStep (ticks k ++ rest) s
    let v := endStep { wdTick u with tx := (txTick u).tx }
    have hstep : step s = next v := step_tickWord hevents
    have hparams : v.params = s.params := wdTick_params u
    have hu : SequencerInv u := hinv
    have hv : SequencerInv v := sequencerInv_congr (sequencerInv_txTick hu) rfl (by simp [v])
    have hup : upcoming v = elapse (upcoming s) := upcoming_txTick hu
    obtain ⟨t, hsteps, ht, hline, hp, hupt⟩ := ih hv rfl (wdTick_events u)
    refine ⟨t, ?_, ht, hline, hp.trans hparams, ?_⟩
    · rw [steps, hstep]
      exact hsteps
    · rw [hupt, hup, Function.iterate_succ_apply]

end

/-! ## The chain a `SEND` captures -/

theorem duration_chainPulses (code : Word) (n : Nat) (te : Half) :
    duration (chainPulses code n (te.setWidth 18)) = (2 * n + 6) * te.toNat :=
  (chainOfPulses code n te).2.2

theorem nonzeroPulses_chainPulses (code : Word) (n : Nat) {te : Half} (hte : te.toNat ≠ 0) :
    NonzeroPulses (chainPulses code n (te.setWidth 18)) := by
  intro p hp
  have hmem := List.mem_map_of_mem (f := Pulse.dur) hp
  rw [chainPulses_durations] at hmem
  obtain h | h := List.mem_append.1 hmem
  · rw [List.eq_of_mem_replicate h]
    bv_omega
  · rw [List.mem_singleton.1 h]
    bv_omega

theorem nonzeroPulses_plays (code : Word) (n r : Nat) {te : Half} (hte : te.toNat ≠ 0) :
    NonzeroPulses (List.replicate r (chainPulses code n (te.setWidth 18))).flatten := by
  intro p hp
  obtain ⟨l, hl, hpl⟩ := List.mem_flatten.1 hp
  rw [List.eq_of_mem_replicate hl] at hpl
  exact nonzeroPulses_chainPulses code n hte p hpl

/-- A captured chain has all its plays still to be driven (R202, R209). -/
theorem upcoming_accept (code : Word) {bits : BitVec 6} {rep : Half} (s : State) (h1 : 1 ≤ bits.toNat)
    (h32 : bits.toNat ≤ 32) (hrep : rep ≠ 0) (hte : s.timing.teUs ≠ 0) :
    upcoming (accept code bits rep s) =
      (List.replicate rep.toNat (chainPulses code bits.toNat (s.timing.teUs.setWidth 18))).flatten := by
  have hsucc : rep.toNat = rep.toNat - 1 + 1 := by bv_omega
  rw [accept_eq_startPulse, upcoming_startPulse ⟨rfl, h1, h32, hte, hrep⟩ ⟨by omega, by omega, fun _ => rfl⟩,
    hsucc, List.replicate_succ, List.flatten_cons, laterPlays, pulsesFrom_start]
  rfl

/-- The step of a `SEND` that is accepted, followed by `TICK`s: 1 µs less per `TICK` of all its plays. -/
theorem steps_send_ticks {s : State} {code : Word} {bits : BitVec 6} {rep : Half} {k : Nat}
    {rest : List EventWord} (hok : sendCause bits rep s = none)
    (hevents : s.events = sendWord code bits rep :: (ticks k ++ rest)) :
    ∃ t, steps (k + 1) s = next t ∧ SequencerInv t ∧ t.out.txLine = t.tx.txLine ∧ t.params = s.params ∧
      upcoming t = elapse^[k]
        (List.replicate rep.toNat (chainPulses code bits.toNat (s.timing.teUs.setWidth 18))).flatten := by
  let a := accept code bits rep (beginStep (ticks k ++ rest) s)
  obtain ⟨-, -, h1, h32, hrep, hte⟩ := sendCause_eq_none_iff.1 hok
  have hrep0 : rep ≠ 0 := by bv_omega
  have hte0 : s.timing.teUs ≠ 0 := by bv_omega
  have hcause : sendCause bits rep (beginStep (ticks k ++ rest) s) = none := hok
  have hstep : step s = next (endStep a) := by
    rw [step_of_decode s hevents (decode_sendWord code bits rep), exec_send, hcause]
    rfl
  have hinv : SequencerInv (endStep a) := sequencerInv_accept code h1 h32 hrep0 hte0
  have hplays : upcoming (endStep a) = _ := upcoming_accept code (beginStep _ s) h1 h32 hrep0 hte0
  obtain ⟨t, hsteps, ht, hline, hparams, hup⟩ := steps_ticks_elapse k rest hinv rfl rfl
  refine ⟨t, ?_, ht, hline, hparams, hup.trans (congrArg _ hplays)⟩
  rw [steps, hstep]
  exact hsteps

/-- Settles O43: what is left of the plays after `k` `TICK`s says whether the chain plays, and at what
level. -/
theorem chainPlaysItsPulses : Obligations.ChainPlaysItsPulses := by
  intro s code bits rep k rest hen hidle h1 h32 hrep hte hevents te p
  obtain ⟨t, hsteps, hinv, hline, hparams, hup⟩ :=
    steps_send_ticks (sendCause_eq_none_iff.2 ⟨hen, hidle, h1, h32, hrep, hte⟩) hevents
  have hchain : duration (chainPulses code bits.toNat (te.setWidth 18)) = p :=
    duration_chainPulses code bits.toNat te
  have hnonzero := nonzeroPulses_plays code bits.toNat rep.toNat hte
  have hleft : duration (upcoming t) = rep.toNat * p - k := by
    rw [hup, duration_iterate_elapse hnonzero, duration_flatten_replicate, hchain]
  refine ⟨fun hk => ?_, fun hk => ?_⟩
  · obtain ⟨hbusy, hlevel⟩ := playing_of_duration_upcoming_pos hinv (by omega)
    refine ⟨t, hsteps, hbusy, ?_⟩
    rw [hline, hlevel, hup, levelAt_iterate_elapse hnonzero, levelAt_flatten_replicate _ (by rwa [hchain]),
      hchain]
  · obtain ⟨hbusy, hlevel⟩ := idle_of_duration_upcoming_zero hinv (by omega)
    exact ⟨t, hsteps, hbusy, by rw [hline, hlevel, hparams]⟩

end Sys2Proof.Machine
end

section
/-! PROOFS. What has no effect: the bits of a code that are not sent (O44), and `TX_GAP_US` (O45). -/

namespace Sys2Proof.Machine

open Host.Outcome (next)

variable {s s' : State} {i : Instr}

/-! ## Operations that neither read nor write `TX_GAP_US` and the sequencer -/

/-- `s` with `TX_GAP_US` = `g` and the sequencer `q`. -/
def withTransmit (g : Half) (q : Sequencer) (s : State) : State :=
  { s with timing := { s.timing with txGapUs := g }, tx := q }

/-- The operation neither reads nor writes `TX_GAP_US` and the sequencer. -/
def TransmitBlind (f : State → State) : Prop :=
  ∀ g q s, f (withTransmit g q s) = withTransmit g q (f s)

theorem transmitBlind_beginStep (rest : List EventWord) : TransmitBlind (beginStep rest) := fun _ _ _ => rfl

theorem transmitBlind_rejectSend (c : BitVec 3) : TransmitBlind (rejectSend c) := fun _ _ _ => rfl

theorem transmitBlind_flag (e : ErrorName) : TransmitBlind (flag e) := by
  intro g q s
  cases e <;> rfl

theorem transmitBlind_selectorAction (sel : Selector) : TransmitBlind (selectorAction sel) := by
  intro g q s
  unfold selectorAction
  split <;> rfl

theorem transmitBlind_noteInvalid (high low : PulseClass) : TransmitBlind (noteInvalid high low) := by
  intro g q s
  rw [noteInvalid_eq, noteInvalid_eq]
  rfl

theorem transmitBlind_bitDecode (high low : Word) : TransmitBlind (bitDecode high low) := by
  intro g q s
  have hclass (d : Word) : classify (withTransmit g q s) d = classify s d := rfl
  have hprev : (withTransmit g q s).dec = s.dec := rfl
  simp only [bitDecode, hclass, hprev]
  rw [transmitBlind_noteInvalid, transmitBlind_selectorAction]

theorem transmitBlind_edgePhase (el : Word) : TransmitBlind (edgePhase el) := by
  intro g q s
  have hdec : (withTransmit g q s).dec = s.dec := rfl
  simp only [edgePhase, hdec]
  split
  · rfl
  · rfl
  · rfl
  · rw [transmitBlind_bitDecode]
    rfl

theorem transmitBlind_takeEdge (ts : Word) : TransmitBlind (takeEdge ts) := fun g q s =>
  congrArg armWatchdog
    (transmitBlind_edgePhase (ts - s.dec.rxPrevTs) g q { s with dec := { s.dec with rxPrevTs := ts } })

theorem transmitBlind_expire : TransmitBlind expire := by
  intro g q s
  have hctl : (withTransmit g q s).ctl = s.ctl := rfl
  have hdec : (withTransmit g q s).dec = s.dec := rfl
  simp only [expire_eq, hctl, hdec, deliver_eq]
  split <;> rfl

theorem transmitBlind_wdTick : TransmitBlind wdTick := by
  intro g q s
  have hwd : (withTransmit g q s).wd = s.wd := rfl
  simp only [wdTick, hwd]
  split
  · rfl
  · split
    · exact transmitBlind_expire g q s
    · rfl

theorem transmitBlind_writeCtrl (data : Word) : TransmitBlind (writeCtrl data) := by
  intro g q s
  have hctl : (withTransmit g q s).ctl = s.ctl := rfl
  simp only [writeCtrl, hctl, rxEnableChange]
  split <;> rfl

theorem transmitBlind_readEffect (a : Addr) : TransmitBlind (readEffect a) := by
  intro g q s
  rw [readEffect_eq, readEffect_eq]
  rfl

/-- Only a write to `TX_GAP_US` writes one of the two (R244). -/
theorem transmitBlind_writeReg {a : Addr} (data : Word) (ha : a ≠ 9) : TransmitBlind (writeReg a data) := by
  intro g q s
  have ha : a.toNat ≠ 9 := fun h => ha (BitVec.eq_of_toNat_eq h)
  unfold writeReg
  split
  · exact transmitBlind_writeCtrl data g q s
  case h_9 h => exact absurd h ha
  all_goals rfl

/-! ## Steps of two states -/

/-- Two states with the same words pending step to related states when waiting, an illegal word and every
instruction the next word can stand for keep the relation. -/
theorem step_related (R : State → State → Prop) (hevents : s'.events = s.events)
    (hidle : R (idleStep s) (idleStep s'))
    (hillegal : ∀ rest, R (illegalStep (beginStep rest s)) (illegalStep (beginStep rest s')))
    (hexec : ∀ w rest i, s.events = w :: rest → decode w = .ok i →
      ∃ t t', exec i (beginStep rest s) = next t ∧ exec i (beginStep rest s') = next t' ∧
        R (endStep t) (endStep t')) :
    ∃ t t', step s = next t ∧ step s' = next t' ∧ R t t' := by
  cases he : s.events with
  | nil => exact ⟨_, _, by simp [step, nextEvent, he], by simp [step, nextEvent, hevents, he], hidle⟩
  | cons w rest =>
    have he' := hevents.trans he
    cases hd : decode w with
    | error e => exact ⟨_, _, step_of_illegal s he hd, step_of_illegal s' he' hd, hillegal rest⟩
    | ok i =>
      obtain ⟨t, t', ht, ht', hR⟩ := hexec w rest i he hd
      refine ⟨_, _, ?_, ?_, hR⟩
      · rw [step_of_decode s he hd, ht, finish_next]
      · rw [step_of_decode s' he' hd, ht', finish_next]

/-! ## The bits of a code that are not sent -/

/-- `s` with `TX_CODE` = `c`. -/
def withCode (c : Word) (s : State) : State := { s with tx := { s.tx with txCode := c } }

theorem sameSentCode_iff :
    SameSentCode s s' ↔
      ∃ c : Word, s' = withCode c s ∧ ∀ i, i < s.tx.txNbits.toNat → c.getLsbD i = s.tx.txCode.getLsbD i := by
  constructor
  · rintro ⟨hs, hbits⟩
    exact ⟨s'.tx.txCode, hs, hbits⟩
  · rintro ⟨c, rfl, hbits⟩
    exact ⟨rfl, hbits⟩

theorem sameSentCode_refl (s : State) : SameSentCode s s := ⟨rfl, fun _ _ => rfl⟩

theorem SameSentCode.out_eq (h : SameSentCode s s') : s'.out = s.out := by
  obtain ⟨c, rfl, -⟩ := sameSentCode_iff.1 h
  rfl

theorem SameSentCode.events_eq (h : SameSentCode s s') : s'.events = s.events := by
  obtain ⟨c, rfl, -⟩ := sameSentCode_iff.1 h
  rfl

theorem sameSentCode_endStep (h : SameSentCode s s') : SameSentCode (endStep s) (endStep s') := by
  obtain ⟨c, rfl, hbits⟩ := sameSentCode_iff.1 h
  exact sameSentCode_iff.2 ⟨c, rfl, hbits⟩

/-- An operation that does not read or write the sequencer keeps two states that differ only so. -/
theorem TransmitBlind.sameSentCode {f : State → State} (hf : TransmitBlind f) (h : SameSentCode s s') :
    SameSentCode (f s) (f s') := by
  obtain ⟨c, rfl, hbits⟩ := sameSentCode_iff.1 h
  have hs : f s = withTransmit s.timing.txGapUs s.tx (f s) := hf s.timing.txGapUs s.tx s
  have hc : f (withCode c s) = withTransmit s.timing.txGapUs { s.tx with txCode := c } (f s) :=
    hf s.timing.txGapUs { s.tx with txCode := c } s
  rw [hc, hs]
  exact ⟨rfl, hbits⟩

/-- The pulses of a chain carry only the bits it sends (R203). -/
theorem pulse_of_sameSentCode (h : SameSentCode s s') {e i : Nat} (hp : HasPulse s e i) :
    pulse s' e i = pulse s e i := by
  obtain ⟨c, rfl, hbits⟩ := sameSentCode_iff.1 h
  obtain ⟨hi, he, hstop⟩ := hp
  by_cases h0 : e = 0
  · rw [h0, pulse_start i hi, pulse_start i hi]
    rfl
  · by_cases h1 : e = s.tx.txNbits.toNat + 1
    · rw [hstop h1, h1, pulse_stop]
      exact pulse_stop (s := withCode c s)
    · have hbit : c.getLsbD (s.tx.txNbits.toNat - e) = s.tx.txCode.getLsbD (s.tx.txNbits.toNat - e) :=
        hbits _ (by omega)
      have he : e ≤ s.tx.txNbits.toNat := by omega
      rw [pulse_bit i hi h0 he, ← hbit]
      exact pulse_bit (s := withCode c s) i hi h0 he

theorem sameSentCode_startPulse (h : SameSentCode s s') {e i : Nat} (hp : HasPulse s e i) :
    SameSentCode (startPulse e i s) (startPulse e i s') := by
  have hpulse := pulse_of_sameSentCode h hp
  obtain ⟨c, rfl, hbits⟩ := sameSentCode_iff.1 h
  refine sameSentCode_iff.2 ⟨c, ?_, hbits⟩
  rw [startPulse, hpulse]
  rfl

theorem sameSentCode_advance (h : SameSentCode s s') (hinv : BusyInv s) :
    SameSentCode (advance s) (advance s') := by
  obtain ⟨c, rfl, hbits⟩ := sameSentCode_iff.1 h
  obtain ⟨-, -, -, -, he, hstop, -, -, -⟩ := hinv
  by_cases hlast : s.tx.txElem.toNat = s.tx.txNbits.toNat + 1
  · have hh := hstop hlast
    by_cases hrep : 1 < s.tx.txRep.toNat
    · rw [advance_repeat hh hlast hrep, advance_repeat (s := withCode c s) hh hlast hrep]
      exact sameSentCode_startPulse (s := { s with tx := { s.tx with txRep := s.tx.txRep - 1 } })
        (sameSentCode_iff.2 ⟨c, rfl, hbits⟩) ⟨by omega, by omega, fun _ => rfl⟩
    · have hrep : s.tx.txRep.toNat ≤ 1 := by omega
      rw [advance_complete hh hlast hrep, advance_complete (s := withCode c s) hh hlast hrep]
      exact sameSentCode_iff.2 ⟨c, rfl, hbits⟩
  · have he : s.tx.txElem.toNat ≤ s.tx.txNbits.toNat := by omega
    cases hh : s.tx.txHalf with
    | false =>
      rw [advance_first hh he, advance_first (s := withCode c s) hh he]
      exact sameSentCode_startPulse h ⟨by omega, by omega, fun h => absurd h hlast⟩
    | true =>
      rw [advance_second hh he, advance_second (s := withCode c s) hh he]
      exact sameSentCode_startPulse h ⟨by omega, by omega, fun _ => rfl⟩

theorem sameSentCode_txTick (h : SameSentCode s s') (hinv : SequencerInv s) :
    SameSentCode (txTick s) (txTick s') := by
  have ⟨c, hs', hbits⟩ := sameSentCode_iff.1 h
  have htx : s'.tx = { s.tx with txCode := c } := congrArg State.tx hs'
  cases hb : s.tx.txBusy with
  | false => rwa [txTick_of_idle hb, txTick_of_idle (by rw [htx]; exact hb)]
  | true =>
    have hb' : s'.tx.txBusy = true := by rw [htx]; exact hb
    by_cases h1 : s.tx.txRem = 1
    · rw [txTick_at_pulse_end hb h1, txTick_at_pulse_end hb' (by rw [htx]; exact h1)]
      exact sameSentCode_advance h (hinv.1 hb)
    · rw [txTick_inside_pulse hb h1, txTick_inside_pulse hb' (by rw [htx]; exact h1), hs']
      exact sameSentCode_iff.2 ⟨c, rfl, hbits⟩

theorem exec_sameSentCode (hi : i.wellFormed = true) (hinv : SequencerInv s) (h : SameSentCode s s') :
    ∃ t t', exec i s = next t ∧ exec i s' = next t' ∧ SameSentCode t t' := by
  have ⟨c, hs', hbits⟩ := sameSentCode_iff.1 h
  cases i with
  | nop => exact ⟨s, s', rfl, rfl, h⟩
  | edge dir ts =>
    have hctl : s'.ctl = s.ctl := by rw [hs']; rfl
    refine ⟨_, _, exec_edge s dir ts, exec_edge s' dir ts, ?_⟩
    rw [hctl]
    split
    · exact (transmitBlind_takeEdge ts).sameSentCode h
    · exact h
  | tick =>
    exact ⟨_, _, rfl, rfl, sameSentCode_txTick (transmitBlind_wdTick.sameSentCode h)
      (sequencerInv_congr hinv (wdTick_tx s) (wdTick_params s))⟩
  | send code bits rep =>
    have hcause : sendCause bits rep s' = sendCause bits rep s := by rw [hs']; rfl
    refine ⟨_, _, exec_send code bits rep s, exec_send code bits rep s', ?_⟩
    rw [hcause]
    cases sendCause bits rep s with
    | some cause => exact (transmitBlind_rejectSend cause).sameSentCode h
    | none => rw [hs']; exact sameSentCode_refl (accept code bits rep s)
  | wr a data =>
    refine ⟨_, _, rfl, rfl, ?_⟩
    by_cases ha : a = 9
    · rw [ha, hs']
      exact sameSentCode_iff.2 ⟨c, rfl, hbits⟩
    · exact (transmitBlind_writeReg data ha).sameSentCode h
  | rd a =>
    refine ⟨_, _, rfl, rfl, (transmitBlind_readEffect a).sameSentCode ?_⟩
    rw [hs']
    exact sameSentCode_iff.2 ⟨c, rfl, hbits⟩
  | reset => exact ⟨_, _, rfl, rfl, by rw [hs']; exact sameSentCode_refl _⟩
  | dec0 | dec1 | dec2 | dec3 | dec4 | dec5 | dec6 | dec7 => cases hi

/-- Settles O44, one instruction at a time. -/
theorem unsentCodeBitsHaveNoEffect : Obligations.UnsentCodeBitsHaveNoEffect := by
  intro s s' hinv h
  have hbegin (rest : List EventWord) : SameSentCode (beginStep rest s) (beginStep rest s') :=
    (transmitBlind_beginStep rest).sameSentCode h
  obtain ⟨t, t', ht, ht', hR⟩ := step_related SameSentCode h.events_eq
    (sameSentCode_endStep (hbegin []))
    (fun rest => sameSentCode_endStep ((transmitBlind_flag .illegalEvent).sameSentCode (hbegin rest)))
    (fun w rest i _ hd => by
      have hinv : SequencerInv (beginStep rest s) := hinv
      obtain ⟨u, u', hu, hu', hR⟩ := exec_sameSentCode (decode_wellFormed hd) hinv (hbegin rest)
      exact ⟨u, u', hu, hu', sameSentCode_endStep hR⟩)
  exact ⟨t, t', ht, ht', hR, hR.out_eq⟩

/-! ## `TX_GAP_US` -/

/-- Two states that are equal but for `TX_GAP_US`. -/
def SameButGap (s s' : State) : Prop := withGap 0 s' = withGap 0 s

theorem TransmitBlind.commutes_withGap {f : State → State} (hf : TransmitBlind f) (g : Half) (s : State) :
    f (withGap g s) = withGap g (f s) := by
  have hs : f s = withTransmit s.timing.txGapUs s.tx (f s) := hf s.timing.txGapUs s.tx s
  have hg : f (withGap g s) = withTransmit g s.tx (f s) := hf g s.tx s
  rw [hg, hs]
  rfl

theorem readReg_withGap {a : Addr} (g : Half) (s : State) (ha : a ≠ 9) :
    readReg (withGap g s) a = readReg s a := by
  have ha : a.toNat ≠ 9 := fun h => ha (BitVec.eq_of_toNat_eq h)
  unfold readReg
  split
  case h_10 h => exact absurd h ha
  all_goals rfl

theorem txTick_withGap (g : Half) (s : State) : txTick (withGap g s) = withGap g (txTick s) := by
  have htx : (txTick (withGap g s)).tx = (txTick s).tx := txTick_tx_congr s rfl rfl
  rw [txTick_frame, htx, txTick_frame s]
  rfl

theorem exec_withGap (hi : i.wellFormed = true) (h9 : i ≠ .rd 9) (g : Half) (s : State) :
    ∃ t t', exec i s = next t ∧ exec i (withGap g s) = next t' ∧ SameButGap t t' := by
  cases i with
  | nop => exact ⟨s, _, rfl, rfl, rfl⟩
  | edge dir ts =>
    have hctl : (withGap g s).ctl = s.ctl := rfl
    refine ⟨_, _, exec_edge s dir ts, exec_edge _ dir ts, ?_⟩
    rw [hctl, (transmitBlind_takeEdge ts).commutes_withGap]
    split <;> rfl
  | tick =>
    have ht : txTick (wdTick (withGap g s)) = withGap g (txTick (wdTick s)) := by
      rw [transmitBlind_wdTick.commutes_withGap, txTick_withGap]
    exact ⟨_, _, rfl, congrArg next ht, rfl⟩
  | send code bits rep =>
    have hcause : sendCause bits rep (withGap g s) = sendCause bits rep s := rfl
    refine ⟨_, _, exec_send code bits rep s, exec_send code bits rep _, ?_⟩
    rw [hcause]
    cases sendCause bits rep s <;> rfl
  | wr a data =>
    by_cases ha : a = 9
    · rw [ha]
      exact ⟨_, _, rfl, rfl, rfl⟩
    · exact ⟨_, _, rfl, congrArg next ((transmitBlind_writeReg data ha).commutes_withGap g s), rfl⟩
  | rd a =>
    have ha : a ≠ 9 := fun h => h9 (congrArg Instr.rd h)
    refine ⟨_, _, rfl, rfl, ?_⟩
    rw [readReg_withGap g s ha, SameButGap, readEffect_eq, readEffect_eq]
    rfl
  | reset => exact ⟨_, _, rfl, rfl, rfl⟩
  | dec0 | dec1 | dec2 | dec3 | dec4 | dec5 | dec6 | dec7 => cases hi

/-- Settles O45, one instruction at a time. -/
theorem gapHasNoEffect : Obligations.GapHasNoEffect := by
  intro s g h9
  refine step_related (s' := withGap g s) SameButGap rfl rfl (fun _ => rfl) (fun w rest i he hd => ?_)
  obtain ⟨t, t', ht, ht', hR⟩ :=
    exec_withGap (decode_wellFormed hd) (fun hi => h9 w rest he (hi ▸ hd)) g (beginStep rest s)
  exact ⟨t, t', ht, ht', congrArg endStep hR⟩

end Sys2Proof.Machine
end

section
/-! PROOFS. The host's operations: one step and the instruction it runs (O6 to O8, O11, O18), the register
space (O12, O13, O15 to O17), and the two halves of a `TICK` (O21). -/

namespace Sys2Proof.Machine

open Host.Outcome (next)

/-! ## A step and its instruction -/

/-- Settles O6. -/
theorem stepRunsTheDecodedInstruction : Obligations.StepRunsTheDecodedInstruction := by
  intro s w rest i h hd
  rw [step_of_decode s h hd]
  rfl

/-- Every instruction answers a next state; a selector action is `exec_decodeSelector`'s. -/
theorem exists_exec_eq_next (i : Instr) (s : State) : ∃ t, exec i s = next t := by
  cases hi : i.wellFormed with
  | false =>
    obtain ⟨sel, rfl⟩ := exists_decodeSelector_of_not_wellFormed hi
    exact ⟨_, exec_decodeSelector s sel⟩
  | true =>
    cases i with
    | edge dir ts => exact ⟨_, exec_edge s dir ts⟩
    | send code bits rep => exact ⟨_, exec_send code bits rep s⟩
    | nop | tick | wr | rd | reset => exact ⟨_, rfl⟩
    | dec0 | dec1 | dec2 | dec3 | dec4 | dec5 | dec6 | dec7 => cases hi

/-- Settles O7: waiting and an illegal word answer a next state, and so does the instruction of a word. -/
theorem everyStepAnswersNext : Obligations.EveryStepAnswersNext := by
  refine ⟨fun s => ?_, exists_exec_eq_next⟩
  obtain ⟨-, hs⟩ | ⟨w, rest, i, -, -, hs⟩ | ⟨w, rest, e, -, -, hs⟩ := step_cases s
  · exact ⟨_, hs⟩
  · obtain ⟨t, ht⟩ := exists_exec_eq_next i (beginStep rest s)
    exact ⟨endStep t, by rw [hs, ht, finish_next]⟩
  · exact ⟨_, hs⟩

/-- Settles O8. -/
theorem illegalWordOnlySetsEvIll : Obligations.IllegalWordOnlySetsEvIll :=
  fun s _ _ _ h hd => step_of_illegal s h hd

/-- Settles O11. -/
theorem nopChangesNothing : Obligations.NopChangesNothing := by
  refine fun s => ⟨rfl, fun rest h => ?_⟩
  have hd : decode 0x0000000000000000 = .ok .nop := decode_eq_ok_iff.2 rfl
  rw [step_of_decode s h hd]
  rfl

/-- Settles O18: the instruction writes `State.resetFor` over every group, and the end of the step drives
the line at the level it wrote. -/
theorem resetFromAnyState : Obligations.ResetFromAnyState := by
  refine fun s => ⟨⟨_, rfl, rfl, rfl, rfl, rfl, rfl, rfl, rfl, rfl⟩, fun rest h => ?_⟩
  have hd : decode 0xF000000000000000 = .ok .reset := decode_eq_ok_iff.2 rfl
  exact ⟨_, step_of_decode s h hd, rfl, rfl, rfl, rfl, rfl, rfl, rfl, rfl, rfl⟩

/-! ## Reads -/

/-- Settles O12. -/
theorem readGivesTheRegister : Obligations.ReadGivesTheRegister := by
  intro a s
  refine congrArg next ((readEffect_eq a _).trans ?_)
  by_cases ha : a = 0x2
  · simp [ha]
  · have hne : a.toNat ≠ 2 := fun h => ha (BitVec.eq_of_toNat_eq h)
    rw [if_neg ha]
    simp [hne]

/-- The bits of `CTRL` (R24). -/
theorem ctrlWord_toNat (s : State) :
    (ctrlWord s).toNat = s.ctl.rxEn.toNat + 2 * s.ctl.txEn.toNat + 4 * s.ctl.abortOnErr.toNat := by
  rw [ctrlWord, BitVec.toNat_setWidth_of_le (by decide)]
  simp only [toNat_append_add, BitVec.toNat_ofBool]
  omega

/-- The bits of `STATUS` (R25). -/
theorem statusWord_toNat (s : State) :
    (statusWord s).toNat =
      s.tx.txBusy.toNat + 2 * s.err.txErr.toNat + 4 * s.latch.rxPend.toNat + 8 * s.latch.rxOvr.toNat +
        16 * s.err.evIll.toNat + 32 * (rxActive s).toNat + 64 * s.wd.wdArmed.toNat +
        128 * s.latch.rxFrameErr.toNat + 256 * s.tx.txLine.toNat + 512 * s.err.txCause.toNat := by
  rw [statusWord, BitVec.toNat_setWidth_of_le (by decide)]
  simp only [toNat_append_add, BitVec.toNat_ofBool]
  omega

/-- Settles O13: the bits of `CTRL` and `STATUS` are added up, and a timing register is zero-extended. -/
theorem registerReadValues : Obligations.RegisterReadValues := by
  intro s a
  refine ⟨fun h => ?ctrl, fun h => ?status, fun h => ?frame, fun h => ?_, fun h => ?_, fun h => ?_,
    fun h => ?_, fun h => ?_, fun h => ?_, fun h => ?_, readReg_reserved s⟩
  all_goals simp only [readReg, h]
  case ctrl => exact ctrlWord_toNat s
  case status => exact statusWord_toNat s
  all_goals exact toNat_setWidth_bound _

/-! ## Writes -/

/-- Settles O15, by what the write does to `RX_EN`. -/
theorem writeControl : Obligations.WriteControl := by
  intro data s
  refine congrArg next (?_ : writeCtrl data s = _)
  obtain ⟨hold, hnew, hw⟩ | ⟨hold, hnew, hw⟩ | ⟨hsame, hw⟩ := writeCtrl_cases s data <;> rw [hw]
  · simp [-BitVec.getLsbD_eq_getElem, armWatchdog, hold, hnew]
  · simp [-BitVec.getLsbD_eq_getElem, disarmWatchdog, emptyDecoder, hold, hnew]
  · simp [-BitVec.getLsbD_eq_getElem, hsame]

/-- Settles O16: a bit written 1 makes its indication false, else the indication stays. -/
theorem writeStatusClears : Obligations.WriteStatusClears := by
  intro data s
  refine congrArg next (?_ : writeStatus data s = _)
  simp only [writeStatus, Bool.if_false_left, Bool.decide_eq_true, Bool.and_comm]

/-- The timing group with `v` stored in the register of address `a` (R23). -/
def storeTiming (a : Addr) (v : Half) (g : Timing) : Timing :=
  { teUs := if a.toNat = 3 then v else g.teUs
    shortMin := if a.toNat = 4 then v else g.shortMin
    shortMax := if a.toNat = 5 then v else g.shortMax
    longMin := if a.toNat = 6 then v else g.longMin
    longMax := if a.toNat = 7 then v else g.longMax
    silenceUs := if a.toNat = 8 then v else g.silenceUs
    txGapUs := if a.toNat = 9 then v else g.txGapUs }

theorem writeReg_timing {a : Addr} (data : Word) (s : State) (hlo : 3 ≤ a.toNat) (hhi : a.toNat ≤ 9) :
    writeReg a data s = { s with timing := storeTiming a (data.setWidth 16) s.timing } := by
  unfold writeReg storeTiming
  generalize a.toNat = n at *
  interval_cases n <;> rfl

/-- The register written reads as the value stored. -/
theorem readReg_storeTiming_same {a : Addr} (v : Half) (g : Timing) (s : State) (hlo : 3 ≤ a.toNat)
    (hhi : a.toNat ≤ 9) : readReg { s with timing := storeTiming a v g } a = v.setWidth 32 := by
  unfold readReg storeTiming
  generalize a.toNat = n at *
  interval_cases n <;> rfl

/-- Every other register reads as before. -/
theorem readReg_storeTiming_other {a b : Addr} (v : Half) (s : State) (hne : b ≠ a) :
    readReg { s with timing := storeTiming a v s.timing } b = readReg s b := by
  have hne : a.toNat ≠ b.toNat := fun h => hne (BitVec.eq_of_toNat_eq h.symm)
  unfold readReg
  split
  case h_1 | h_2 | h_3 | h_11 => rfl
  all_goals
    rename_i h
    simp only [storeTiming, if_neg (h ▸ hne)]

/-- Settles O17, with `storeTiming` as the timing group after the write. -/
theorem writeTimingStores : Obligations.WriteTimingStores := by
  intro a data s hlo hhi
  have hv : (data.setWidth 16).toNat = data.toNat % 2 ^ 16 := BitVec.toNat_setWidth ..
  refine ⟨_, congrArg next (writeReg_timing data s hlo hhi), ?_, fun b => readReg_storeTiming_other _ s,
    ?_⟩
  · rw [readReg_storeTiming_same _ _ s hlo hhi, toNat_setWidth_bound, hv]
  · simp only [storeTiming, apply_ite BitVec.toNat, hv, and_self]

/-! ## The two halves of a `TICK` -/

/-- The watchdog's part keeps what the sequencer's part wrote, and does not read it. -/
theorem wdTick_txTick (s : State) : wdTick (txTick s) = { wdTick s with tx := (txTick s).tx } := by
  have h : wdTick { s with tx := (txTick s).tx } =
      withTransmit s.timing.txGapUs (txTick s).tx (wdTick s) :=
    transmitBlind_wdTick s.timing.txGapUs (txTick s).tx s
  rw [txTick_frame, h, ← wdTick_timing]
  rfl

/-- Settles O21. -/
theorem tickHalvesCommute : Obligations.TickHalvesCommute :=
  fun s => ⟨rfl, by rw [exec_tick, wdTick_txTick], wdTick_tx s, txTick_frame s⟩

end Sys2Proof.Machine
end

section
/-! PROOFS. What the model itself adds to the spec's step: the step with no word presented (O9, log entry 2)
and the staging of a selector row (O32, log entry 4). -/

namespace Sys2Proof.Machine

open Host.Outcome (next)

/-! ## A step with no word presented -/

theorem step_of_events_nil {s : State} (h : s.events = []) : step s = next (idleStep s) := by
  simp [step, nextEvent, h]

/-- Settles O9: the step waits, and it leaves no word pending, as there was none. -/
theorem noEventChangesNothing : Obligations.NoEventChangesNothing := by
  intro s h
  rw [step_of_events_nil h, idleStep, ← h]
  rfl

/-! ## A staged selector row -/

/-- The bits of a selector row are its selector (log entry 7). -/
theorem tableCode_selector {k : Nat} (hk : k < 8) : tableCode 8 k = .selector (BitVec.ofNat 3 k) :=
  if_pos ⟨by decide, le_rfl, hk⟩

theorem decodeTableWord_selector {k : Nat} (hk : k < 8) :
    decodeTableWord 8 k = some (decodeSelector (BitVec.ofNat 3 k)) := by
  rw [decodeTableWord, tableCode_selector hk, decodeCode]

theorem withFetchWord_selector {k : Nat} (hk : k < 8) (s : State) :
    s.withFetchWord 8 k = stageSelector (BitVec.ofNat 3 k) s := by
  rw [State.withFetchWord, tableCode_selector hk, stageCode]

/-- Under the reset windows a staged duration is Long or Short as it was staged, and so never `Invalid`. -/
theorem classify_stagedDuration {s : State} (b : Bool)
    (hsmin : s.timing.shortMin = Config.shortMinReset) (hsmax : s.timing.shortMax = Config.shortMaxReset)
    (hlmin : s.timing.longMin = Config.longMinReset) (hlmax : s.timing.longMax = Config.longMaxReset) :
    classify s (stagedDuration b) = if b then .long else .short := by
  rw [classify, hsmin, hsmax, hlmin, hlmax]
  cases b <;> decide

/-- The selector formed of the staged bit and the staged classes is the one staged (R92). -/
theorem selector_staged (sel : Selector) :
    selector (sel.getLsbD 2) (if sel.getLsbD 1 then .long else .short)
      (if sel.getLsbD 0 then .long else .short) = sel := by
  revert sel
  decide

/-- What a selector action makes of `RX_SR`, `RX_PREV` and `RX_ERR` depends on these three alone. -/
theorem selectorAction_dec_congr (sel : Selector) {s s' : State} (hsr : s'.dec.rxSr = s.dec.rxSr)
    (hprev : s'.dec.rxPrev = s.dec.rxPrev) (herr : s'.dec.rxErr = s.dec.rxErr) :
    (selectorAction sel s').dec.rxSr = (selectorAction sel s).dec.rxSr ∧
      (selectorAction sel s').dec.rxPrev = (selectorAction sel s).dec.rxPrev ∧
      (selectorAction sel s').dec.rxErr = (selectorAction sel s).dec.rxErr := by
  unfold selectorAction
  split <;> simp [dec0, dec1, dec2, dec3, dec4, dec5, dec6, dec7, flag, hsr, hprev, herr]

/-- `BITDECODE` of the staged durations performs the staged selector's row (R147). -/
theorem bitDecode_staged (sel : Selector) {s : State} (hprev : s.dec.rxPrev = sel.getLsbD 2)
    (hclass : ∀ b, classify s (stagedDuration b) = if b then .long else .short) :
    bitDecode (stagedDuration (sel.getLsbD 0)) (stagedDuration (sel.getLsbD 1)) s = selectorAction sel s := by
  have hvalid : ∀ b : Bool, (if b then PulseClass.long else .short) ≠ .invalid := by decide
  rw [bitDecode, noteInvalid, hprev, hclass, hclass, selector_staged,
    if_neg (not_or_intro (hvalid _) (hvalid _))]

/-- The state in which the edge of a staged selector performs its row: the word is taken and its timestamp
noted (R140). -/
def atStagedEdge (sel : Selector) (s : State) : State :=
  let staged := beginStep s.events (stageSelector sel s)
  { staged with dec := { staged.dec with rxPrevTs := s.dec.rxPrevTs + stagedDuration (sel.getLsbD 1) } }

/-- The step of a staged selector is the phase-3 edge that performs its row (R146). -/
theorem step_stageSelector (sel : Selector) (s : State) :
    step (stageSelector sel s) =
      next (endStep (armWatchdog (setEcnt 2 (selectorAction sel (atStagedEdge sel s))))) := by
  have hlow : s.dec.rxPrevTs + stagedDuration (sel.getLsbD 1) - s.dec.rxPrevTs =
      stagedDuration (sel.getLsbD 1) := by bv_omega
  have hdecode : bitDecode (stagedDuration (sel.getLsbD 0)) (stagedDuration (sel.getLsbD 1))
      (atStagedEdge sel s) = selectorAction sel (atStagedEdge sel s) :=
    bitDecode_staged sel rfl fun b => classify_stagedDuration b rfl rfl rfl rfl
  rw [step_edgeWord rfl rfl, takeEdge_rising _ rfl, ← hdecode]
  simp only [beginStep_dec, stageSelector, hlow]
  rfl

/-- Settles O32: of what the staging changes the row's action reads `RX_PREV` alone. -/
theorem stagedSelectorRuns : Obligations.StagedSelectorRuns := by
  intro k s hk
  let sel := BitVec.ofNat 3 k
  let s0 : State := { s with dec := { s.dec with rxPrev := k.testBit 2 } }
  have hprev : sel.getLsbD 2 = k.testBit 2 := BitVec.getLsbD_ofNat ..
  have hstep := step_stageSelector sel s
  rw [← withFetchWord_selector hk] at hstep
  obtain ⟨hsr, hp, herr⟩ := selectorAction_dec_congr sel (s := s0) (s' := atStagedEdge sel s) rfl hprev rfl
  exact ⟨_, _, _, decodeTableWord_selector hk, exec_decodeSelector s0 sel, hstep, hsr, hp, herr,
    selectorAction_events sel _⟩

end Sys2Proof.Machine
end
